-- ==== Sys2Proof/Word.lean ====
section
/-!
DEFINITION. The words the LS6410's manual speaks of, and the fixed-size table its records stand in.
-/
namespace Sys2Proof

/-- One byte of a port transaction (10, R183). -/
abbrev Byte := BitVec 8

/-- A register of the window (10, section 10.2). -/
abbrev Word := BitVec 32

/-- A frame number, counted modulo 65536 (06, R117). -/
abbrev Frame := BitVec 16

/-- A table of exactly `n` records, in order. -/
structure Table (α : Type) (n : Nat) where
  cells : List α
  size : cells.length = n
deriving DecidableEq, Repr

namespace Table

/-- `n` records that are all `a`. -/
def replicate {α : Type} (n : Nat) (a : α) : Table α n := ⟨List.replicate n a, by simp⟩

/-- The record at `i`. -/
def get {α : Type} {n : Nat} (t : Table α n) (i : Fin n) : α :=
  t.cells[i.val]'(by rw [t.size]; exact i.isLt)

/-- The table with the record at `i` replaced. -/
def set {α : Type} {n : Nat} (t : Table α n) (i : Fin n) (a : α) : Table α n :=
  ⟨t.cells.set i.val a, by rw [List.length_set, t.size]⟩

end Table

end Sys2Proof
end

