-- ==== Sys2Proof/Syntax.lean ====
section
/-!
DEFINITION. The commands of the block: one constructor for each row of spec/opcode_table.json, each one whole
event of the part (95). Operands are what the outside world supplies with the event.
-/
namespace Sys2Proof

/-- A write transaction on the two-wire port but for its offset byte: the device address sent, the count byte and the
data bytes received (10, R183). -/
structure PortWrite where
  device : BitVec 7
  count : Byte
  data : List Byte
deriving DecidableEq, Repr

/-- What the outside does on the two-wire port (10, R183, R184). A read, and a transaction that is not over, have no row of
their own: REGISTER_WRITE carries them too (notes/assumptions/16.md, 17.md). -/
inductive PortEvent where
  /-- A whole write transaction, from START to STOP. -/
  | whole (write : PortWrite)
  /-- The same without its STOP: the transaction is in progress. -/
  | begun (write : PortWrite)
  /-- Further data bytes of the transaction in progress. -/
  | bytes (data : List Byte)
  /-- START, repeated or not, and a device address with the read bit. -/
  | readAddress (device : BitVec 7)
  /-- The host acknowledges a byte that the port has sent, or does not. -/
  | answer (acknowledged : Bool)
  /-- STOP. -/
  | stop
deriving DecidableEq, Repr

/-- The reactions of other blocks to a frame start, whose order against the notice unit's sending the spec leaves
free (06, R126; 02, section 2.3; 08, R168; notes/assumptions/4.md). `slotMap` is the whole of R30 to R33. -/
inductive FrameReaction where
  | slotMap
  | untils
  | moveEnds
  | waits
deriving DecidableEq, Repr

/-- What may come before or after the notice unit's sending at a frame start: another block's reaction, or an engine item
(03, R50). -/
inductive FrameStep where
  | react (reaction : FrameReaction)
  | item
deriving DecidableEq, Repr

/-- The order of what comes inside a frame start, where the spec leaves it free: the reactions and engine items before the
notice unit's sending and those after it, in their order (03, R50; notes/assumptions/4.md, 30.md), and after how many of
them all the roster unit chooses the turn and the generator reads the request queue (03, R57). -/
structure FrameOrder where
  before : List FrameStep
  after : List FrameStep
  turnAt : Nat
  readAt : Nat
deriving DecidableEq, Repr

/-- The commands. Each docstring names the row's rule. -/
inductive Instr where
  /-- R125: RST_N; `straps` are the levels of ADDR1 and ADDR0 as RST_N rises (R183). -/
  | powerOnReset (straps : BitVec 2)
  /-- R120: a CONTROL write with frame request 1. -/
  | startRequest (write : PortWrite)
  /-- R121: a CONTROL write with frame request 2. -/
  | haltRequest (write : PortWrite)
  /-- R122: a CONTROL write with frame request 3. -/
  | resumeRequest (write : PortWrite)
  /-- R121: the end of the frame that completes in HALTING. -/
  | haltComplete
  /-- R126: bit clock 0 of a frame, with what comes inside its start. -/
  | frameStart (order : FrameOrder)
  /-- R30 and the fully-vacated reports of R33. -/
  | ownerUntilVacate
  /-- R31. -/
  | guardEnd
  /-- R32 and the gone-live reports of R33. -/
  | incomingGoLive
  /-- R10. -/
  | untilWriteInRange
  /-- R105. -/
  | moveTermEndRemoval
  /-- R85. -/
  | waitExpiry
  /-- R161: the 64 bits received in positions 6 to 9. -/
  | uplinkArrival (bits : BitVec 64)
  /-- R137: the limits M and 2M of the missed-turn count. -/
  | missedTurnLimit
  /-- R172, R174: the CLAIM sample of one position; `claim` when CLAIM is low. -/
  | claimSample (position : Fin 64) (claim : Bool)
  /-- R176. -/
  | frameClose
  /-- R178. -/
  | notTakenUpReclaim
  /-- R179. -/
  | idleReclaim
  /-- R58: a REQUEST at the head of the request queue. -/
  | request
  /-- R80. -/
  | withdraw
  /-- R90. -/
  | renew
  /-- R94. -/
  | release
  /-- R70. -/
  | query
  /-- R72. -/
  | leave
  /-- R138. -/
  | holderRetirement
  /-- R110. -/
  | compactionStep
  /-- R82. -/
  | reconsiderationPass
  /-- R198. -/
  | pin
  /-- R199. -/
  | unpin
  /-- R200. -/
  | grantTo
  /-- R97. -/
  | revoke
  /-- R203. -/
  | setQuota
  /-- R204. -/
  | bar
  /-- R205. -/
  | unbar
  /-- R206. -/
  | evict
  /-- R207. -/
  | clearQ
  /-- R109. -/
  | compact
  /-- R113. -/
  | compactAbort
  /-- R87. -/
  | flushDeferred
  /-- R209. -/
  | restart
  /-- R192: a latched code that names no command. -/
  | unknownCommand
  /-- R188. -/
  | timingWrite (write : PortWrite)
  /-- R188. -/
  | limitsWrite (write : PortWrite)
  /-- R190. -/
  | attentionWrite (write : PortWrite)
  /-- R195. -/
  | viewSelectWrite (write : PortWrite)
  /-- R183: a write to any other register. -/
  | registerWrite (offset : Byte) (event : PortEvent)
  /-- R192. -/
  | cmdWrite (write : PortWrite)
deriving DecidableEq, Repr

end Sys2Proof
end

