-- ==== Sys2Proof/Decode.lean ====
section
/-!
DEFINITION. The command a word spells by the bits of spec/opcode_table.json. No row of the table gives bits
(every row's "fields" is empty and none has "fixed"), so no word spells a command.
-/
namespace Sys2Proof

/-- The command that the word `w` of `nbits` bits spells by the table: none, since no row gives bits. -/
def decodeTableWord (_nbits _w : Nat) : Option Instr := none

end Sys2Proof
end

