-- ==== Sys2Proof/Config.lean ====
section
/-!
DEFINITION. What the part fixes: its identity, its capacities and its power-on settings.
The spec leaves no result of a command open, so there is no free value here (notes/assumptions/24.md).
-/
namespace Sys2Proof.Config

/-- IDENT: vendor 0x54, revision 0x01, part 0x6410 (10, section 10.2). -/
def ident : Word := 0x54016410

/-- The request queue holds at most 12 entries (03, R55). -/
def requestCapacity : Nat := 12

/-- The deferred list holds at most 8 entries (04, R75). -/
def deferredCapacity : Nat := 8

/-- The notice queue holds at most 16 entries (08, R164). -/
def noticeCapacity : Nat := 16

/-- The notice reserve: 3 free entries of the notice queue (03, R52). -/
def noticeReserve : Nat := 3

/-- The first leasable position (02, R26). -/
def firstLeasable : Nat := 10

/-- OPEN as a term is carried (01, R7). -/
def openTerm : BitVec 16 := 65535

/-- The farthest a position's until is written ahead of the counter (01, R10). -/
def untilRange : Nat := 32767

/-- The base of the port's device address (10, R183). -/
def deviceBase : BitVec 7 := 0x2C

/-- The greatest offset of the register window (10, R183). -/
def lastOffset : Nat := 0x40

/-- Slot quota after power-on reset (07, R133). -/
def slotQuota : Nat := 16

/-- Lease quota after power-on reset (07, R133). -/
def leaseQuota : Nat := 4

end Sys2Proof.Config
end

