-- ==== Sys2Proof/Machine/State.lean ====
section
/-!
DEFINITION. The state of the block: every record the manual names, by the unit that owns it (00_scope, block diagram),
and its power-on values (R23, R47, R89, R125, R150, R170, R171, R194 and the register table of 10).
-/
namespace Sys2Proof.Machine

/-- A lease-table index (01, R1). -/
abbrev LeaseIdx := Fin 32

/-- A slot position of the frame (02, R26). -/
abbrev Pos := Fin 64

/-- A length class; the run has 2 ^ class positions (01, R5). -/
abbrev LenClass := Fin 5

/-- A tributary: `t` stands for the address `t + 1`, 1 to 30 (07, R131). -/
abbrev Trib := Fin 30

/-- The name of a lease (01, R2). -/
structure Handle where
  index : LeaseIdx
  generation : BitVec 3
deriving DecidableEq, Repr

/-- How a lease was made (01, R4). -/
inductive Origin where
  | bus | granted | pin
deriving DecidableEq, Repr

/-- Lease states (01, section 1.3); a FREE entry holds no lease. -/
inductive LeaseState where
  | announcing | pending | active | ending
deriving DecidableEq, Repr

/-- End reasons (01, R11). -/
inductive EndReason where
  | holderRelease | hostRevoke | preempted | expired | notTakenUp | idle | holderGone | barred | restart
deriving DecidableEq, Repr

/-- The move sub-record (01, R14): UNSENT while `effect` is absent, SENT with its effect frame once present. -/
structure Move where
  target : Pos
  effect : Option Frame
deriving DecidableEq, Repr

/-- The lease record (01, section 1.2). `holder` is absent for holder 0, the host. -/
structure Lease where
  state : LeaseState
  holder : Option Trib
  origin : Origin
  start : Pos
  cls : LenClass
  priority : BitVec 2
  term : BitVec 16
  startFrame : Option Frame
  endFrame : Option Frame
  endReason : Option EndReason
  seqEcho : Bool
  takenUp : Bool
  idle : Nat
  move : Option Move
  /-- The end frame held is the one that the lease's sent end notice named (01, R19, R20; notes/assumptions/10.md). -/
  endAnnounced : Bool
deriving DecidableEq, Repr

/-- An entry of the lease table (01, R1): FREE when it holds no lease. -/
structure LeaseEntry where
  generation : BitVec 3
  lastReason : Option EndReason
  lease : Option Lease
deriving DecidableEq, Repr

/-- The incoming entry of a position (02, R26). -/
structure Incoming where
  lease : LeaseIdx
  fromFrame : Option Frame
  untilFrame : Option Frame
deriving DecidableEq, Repr

/-- A leasable position record (02, R26). -/
structure Slot where
  owner : Option LeaseIdx
  ownerUntil : Option Frame
  incoming : Option Incoming
  guardUntil : Option Frame
  quarantine : Bool
deriving DecidableEq, Repr

/-- A FREE position. -/
def Slot.free : Slot := ⟨none, none, none, none, false⟩

/-- Refusal reasons (08, R157). -/
inductive RefusalReason where
  | badArgument | outstanding | quota | noEntry | noSpace | deferFull | displaced | withdrawn | waitExpired
  | badHandle | notHolder | wrongState | addressInUse | barred
deriving DecidableEq, Repr

/-- A notice's kind and argument (08, R155). -/
inductive NoticeBody where
  | grant (start : Pos) (cls : LenClass) (offset : BitVec 3) (term : BitVec 16)
  | move (start : Pos) (offset : BitVec 3)
  | released (offset : BitVec 3) (reason : EndReason)
  | revoked (offset : BitVec 3) (reason : EndReason)
  | reclaimed (reason : EndReason)
  | expired (reason : EndReason)
  | refuse (reason : RefusalReason) (identity : BitVec 16)
  | welcome (identity : BitVec 16) (slotQuota : BitVec 6) (leaseQuota : BitVec 4)
  | defer (position : BitVec 4) (waitLimit : BitVec 8)
  | renewed (value : BitVec 16) (termFlag : Bool)
  | status (state : LeaseState) (start : Pos) (cls : LenClass) (value : BitVec 16) (endFlag : Bool)
deriving DecidableEq, Repr

/-- A downlink message (08, R153); the handle is absent when the notice names no lease (08, R164). -/
structure Notice where
  address : Trib
  handle : Option Handle
  seqEcho : Bool
  body : NoticeBody
deriving DecidableEq, Repr

/-- An entry of the notice queue (08, R164). It is effect-bearing exactly when it has a lease link.
`come` is the mark of R148 that a copy's effect frame has come. -/
structure QueuedNotice where
  notice : Notice
  link : Option LeaseIdx
  answer : Bool
  copy : Bool
  effect : Option Frame
  come : Bool
deriving DecidableEq, Repr

/-- A reply copy (07, R147, R148). -/
structure ReplyCopy where
  notice : Notice
  effect : Option Frame
  come : Bool
deriving DecidableEq, Repr

/-- Roster states (07, R132). -/
inductive RosterState where
  | absent | present | silent | leaving | barred
deriving DecidableEq, Repr

/-- A roster entry (07, R131). -/
structure RosterEntry where
  state : RosterState
  identity : Option (BitVec 16)
  missed : Nat
  lastSeq : Option Bool
  reply : Option ReplyCopy
  slotQuota : Nat
  leaseQuota : Nat
  slotsHeld : Nat
  leasesHeld : Nat
deriving DecidableEq, Repr

/-- A roster entry after power-on reset (07, R150). -/
def RosterEntry.reset : RosterEntry :=
  ⟨.absent, none, 0, none, none, Config.slotQuota, Config.leaseQuota, 0, 0⟩

/-- The argument of a REQUEST as it is carried (08, R154). -/
structure RequestArgs where
  cls : BitVec 3
  priority : BitVec 2
  term : BitVec 16
  defer : Bool
  preferred : BitVec 6
deriving DecidableEq, Repr

/-- The kinds that the lease engine takes (03, section 3.2). -/
inductive Message where
  | request (args : RequestArgs)
  | withdraw
  | renew (handle : Handle) (added : BitVec 16)
  | release (handle : Handle)
  | query (handle : Handle)
  | leave
deriving DecidableEq, Repr

/-- An entry of the request queue (03, R55). -/
structure Request where
  sender : Trib
  message : Message
  seq : Bool
  arrival : Frame
deriving DecidableEq, Repr

/-- An entry of the deferred list (04, R75). -/
structure Deferred where
  sender : Trib
  seq : Bool
  cls : LenClass
  priority : BitVec 2
  term : BitVec 16
  preferred : Option (BitVec 6)
  arrival : Frame
  waitUntil : Frame
deriving DecidableEq, Repr

/-- Generator states (06, R119). -/
inductive GenState where
  | stopped | running | halting | halted
deriving DecidableEq, Repr

/-- Where the generator stands between its frame events: no frame begun, frame 0 begun by a start request with its
frame start to come (06, R120), or a frame in progress (06, R126, R127). -/
inductive FramePhase where
  | between | zeroBegun | inFrame
deriving DecidableEq, Repr

/-- The frame generator (06). -/
structure FrameGen where
  state : GenState
  counter : Frame
  phase : FramePhase
  resumed : Bool
  marker : Option (BitVec 32)
  downlink : Option (BitVec 64)
deriving DecidableEq, Repr

/-- The requesters of the arbiter (03, R51). -/
inductive Requester where
  | bus | management | internal
deriving DecidableEq, Repr

/-- The engine's arbiter and internal work flags (03, R51, R53). -/
structure Engine where
  lastServed : Requester
  retireFlags : Table Bool 30
  stepReady : Bool
  reconsider : Bool
deriving DecidableEq, Repr

/-- Phases of the compaction worker (05, R108). -/
inductive WorkerPhase where
  | step | wait
deriving DecidableEq, Repr

/-- Status of the compaction worker; the phase is present while ACTIVE (05, R108). -/
inductive WorkerStatus where
  | off
  | active (phase : WorkerPhase)
deriving DecidableEq, Repr

/-- The compaction worker (05, R108). -/
structure Worker where
  status : WorkerStatus
  scan : Nat
  underMove : Option Handle
  moves : Nat
deriving DecidableEq, Repr

/-- The speaker of a frame (07, R135). -/
inductive Turn where
  | anyone
  | owner (t : Trib)
deriving DecidableEq, Repr

/-- The uplink receiver (08, R160); the fields are absent when they are those of no frame. -/
structure UplinkRx where
  turn : Option Turn
  uplinkOpen : Option Bool
  received : Option (BitVec 64)
deriving DecidableEq, Repr

/-- The configuration fields of CONTROL, TIMING and LIMITS (10, section 10.2). -/
structure Settings where
  preemptEn : Bool
  d : BitVec 4
  k : BitVec 6
  m : BitVec 4
  u : BitVec 8
  idleLimit : BitVec 8
  waitLimit : BitVec 8
  maxTerm : BitVec 16
deriving DecidableEq, Repr

/-- What a read has taken: the register's whole value, and the count (10, R184). -/
structure ReadTaken where
  value : Word
  count : Byte
deriving DecidableEq, Repr

/-- The port's transaction (10, R183-R185). -/
inductive PortTransaction where
  /-- None: the port waits for a START. -/
  | idle
  /-- One that the port has not acknowledged, or whose read the host has ended: it is let pass to the next STOP or START. -/
  | ignored
  /-- A write or the first phase of a read: offset and count are acknowledged, and so many counted bytes have come. -/
  | receiving (offset count : Byte) (data : List Byte)
  /-- A read: the value is taken, and the host has acknowledged so many bytes. -/
  | sending (taken : ReadTaken) (acknowledged : Nat)
deriving DecidableEq, Repr

/-- The port's own registers and its transaction (10, R183-R185, R192, R195). -/
structure Port where
  straps : BitVec 2
  keptOffset : Byte
  keptCount : Byte
  arg0 : Word
  arg1 : Word
  viewSelect : Word
  view0 : Word
  view1 : Word
  view2 : Word
  view3 : Word
  transaction : PortTransaction
deriving DecidableEq, Repr

/-- Command unit states (10, section 10.5). -/
inductive CommandState where
  | idle | accepted | executing | done
deriving DecidableEq, Repr

/-- Result codes (10, R193). -/
inductive ResultCode where
  | none | ok | badArgument | badHandle | wrongState | occupied | noEntry | noSpace | quota | notPresent | overQuota
deriving DecidableEq, Repr

/-- The RESULT register (10, R193). -/
structure CommandResult where
  command : Byte
  code : ResultCode
  value : BitVec 16
deriving DecidableEq, Repr

/-- The command unit with what it latched (10, R192). -/
structure CommandUnit where
  state : CommandState
  code : Byte
  arg0 : Word
  arg1 : Word
  result : CommandResult
deriving DecidableEq, Repr

/-- A limit that a missed turn reached (07, R137). -/
inductive MissedLimit where
  | silent | leaving
deriving DecidableEq, Repr

/-- Reports that an event has given and that are not yet taken (03, R54; notes/assumptions/3.md): the frame start at
the slot map unit (three steps) and at the lease engine (three reactions), the limit a missed turn reached, and the
leases that the last verdict reclaims, in ascending order. -/
structure Due where
  vacate : Bool
  guardEnd : Bool
  goLive : Bool
  untils : Bool
  moveEnds : Bool
  waits : Bool
  missed : Option (Trib × MissedLimit)
  reclaims : List (LeaseIdx × EndReason)
deriving DecidableEq, Repr

/-- Nothing is outstanding. -/
def Due.nothing : Due := ⟨false, false, false, false, false, false, none, []⟩

/-- The state of the LS6410. -/
structure State where
  fg : FrameGen
  slots : Table Slot 54
  leases : Table LeaseEntry 32
  engine : Engine
  requests : List Request
  deferred : List Deferred
  worker : Worker
  roster : Table RosterEntry 30
  turnPointer : Nat
  uplink : UplinkRx
  notices : List QueuedNotice
  credited : Table Bool 32
  attention : BitVec 10
  attnEn : BitVec 10
  settings : Settings
  port : Port
  cmd : CommandUnit
  due : Due
  /-- The commands that wait, first in, first out. -/
  pending : List Instr
deriving DecidableEq, Repr

/-- No command of this block stops it with a fault: what the manual refuses, it answers in a register, a notice or an
attention flag (notes/assumptions/24.md). -/
inductive Fault : Type
deriving DecidableEq, Repr

/-- Commands without a meaning. -/
inductive Refusal where
  /-- Raised by exec for a row that has no meaning yet; safe. No arm raises it. -/
  | notModelled (mnemonic : String)
deriving DecidableEq, Repr

/-- What a meaning answers. -/
abbrev Result := Host.Outcome State Fault Refusal

namespace State

/-! The updates of one field. Every meaning writes the state through these. -/

def setFg (s : State) (v : FrameGen) : State := { s with fg := v }
def setSlots (s : State) (v : Table Slot 54) : State := { s with slots := v }
def setLeases (s : State) (v : Table LeaseEntry 32) : State := { s with leases := v }
def setEngine (s : State) (v : Engine) : State := { s with engine := v }
def setRequests (s : State) (v : List Request) : State := { s with requests := v }
def setDeferred (s : State) (v : List Deferred) : State := { s with deferred := v }
def setWorker (s : State) (v : Worker) : State := { s with worker := v }
def setRoster (s : State) (v : Table RosterEntry 30) : State := { s with roster := v }
def setTurnPointer (s : State) (v : Nat) : State := { s with turnPointer := v }
def setUplink (s : State) (v : UplinkRx) : State := { s with uplink := v }
def setNotices (s : State) (v : List QueuedNotice) : State := { s with notices := v }
def setCredited (s : State) (v : Table Bool 32) : State := { s with credited := v }
def setAttention (s : State) (v : BitVec 10) : State := { s with attention := v }
def setAttnEn (s : State) (v : BitVec 10) : State := { s with attnEn := v }
def setSettings (s : State) (v : Settings) : State := { s with settings := v }
def setPort (s : State) (v : Port) : State := { s with port := v }
def setCmd (s : State) (v : CommandUnit) : State := { s with cmd := v }
def setDue (s : State) (v : Due) : State := { s with due := v }
def setPending (s : State) (v : List Instr) : State := { s with pending := v }

/-- The machine right after power-on reset. The straps' levels are not the spec's to give: 0 here
(notes/assumptions/15.md). -/
def reset : State where
  fg := ⟨.stopped, 0, .between, false, none, none⟩
  slots := Table.replicate 54 Slot.free
  leases := Table.replicate 32 ⟨0, none, none⟩
  engine := ⟨.internal, Table.replicate 30 false, false, false⟩
  requests := []
  deferred := []
  worker := ⟨.off, 10, none, 0⟩
  roster := Table.replicate 30 RosterEntry.reset
  turnPointer := 0
  uplink := ⟨none, none, none⟩
  notices := []
  credited := Table.replicate 32 false
  attention := 0
  attnEn := 0
  settings := ⟨false, 3, 8, 4, 64, 0, 64, 65535⟩
  port := ⟨0, 0x00, 4, 0, 0, 0, 0, 0, 0, 0, .idle⟩
  cmd := ⟨.idle, 0, 0, 0, ⟨0, .none, 0⟩⟩
  due := Due.nothing
  pending := []

end State

end Sys2Proof.Machine
end

