-- ==== Sys2Proof/Machine/Flags.lean ====
section
/-!
DEFINITION. Every flag computation: the attention flags and ATTN_N (10, R190, R191), the checks of messages and
markers (08, R158, R159) and the codes that the registers show.
-/
namespace Sys2Proof.Machine

/-- The attention causes (10, section 10.4), with their bits in ATTENTION. -/
inductive Cause where
  | cmdDone | cmdOverrun | roster | quarantine | overheadTrespass | compactEnd | tableFull | noticeDrop | halted
  | ctrlIgnored
deriving DecidableEq, Repr

/-- The bit of a cause in ATTENTION and ATTN_EN (10, section 10.2). -/
def Cause.bit : Cause → Nat
  | .cmdDone => 0
  | .cmdOverrun => 1
  | .roster => 2
  | .quarantine => 3
  | .overheadTrespass => 4
  | .compactEnd => 5
  | .tableFull => 6
  | .noticeDrop => 7
  | .halted => 8
  | .ctrlIgnored => 9

/-- The word with the cause's bit alone. -/
def Cause.mask (c : Cause) : BitVec 10 := BitVec.ofNat 10 (2 ^ c.bit)

namespace State

/-- Setting an attention flag; a flag already set stays set (10, R190). -/
def raise (c : Cause) (s : State) : State := s.setAttention (s.attention ||| c.mask)

/-- Setting an attention flag if `b`. -/
def raiseIf (b : Bool) (c : Cause) (s : State) : State := if b then s.raise c else s

/-- Whether a flag is set. -/
def flagged (c : Cause) (s : State) : Bool := s.attention.getLsbD c.bit

/-- ATTN_N is driven low while an enabled flag is set (10, R191). -/
def attnLow (s : State) : Bool := decide (s.attention &&& s.attnEn ≠ 0)

end State

/-- One step of a check register: the bit is combined with the register's most significant bit, the register is
shifted left and, if the combined bit was 1, combined with the polynomial (08, R158, R159). -/
def checkStep {w : Nat} (poly reg : BitVec w) (bit : Bool) : BitVec w :=
  if bit ^^ reg.msb then (reg <<< 1) ^^^ poly else reg <<< 1

/-- The bits of a word, most significant first. -/
def bitsOf {w : Nat} (x : BitVec w) : List Bool := (List.range w).map x.getMsbD

/-- CRC-16 of a control message's payload: polynomial 0x1021, initial value 0xFFFF (08, R158). -/
def crc16 (bits : List Bool) : BitVec 16 := bits.foldl (checkStep 0x1021) 0xFFFF

/-- CRC-8 of a marker: polynomial 0x07, initial value 0x00 (08, R159). -/
def crc8 (bits : List Bool) : BitVec 8 := bits.foldl (checkStep 0x07) 0x00

/-- State codes of a lease (01, section 1.3); 0 is a FREE entry. -/
def LeaseState.code : LeaseState → BitVec 3
  | .announcing => 1
  | .pending => 2
  | .active => 3
  | .ending => 4

/-- Origin codes of the record view (10, R196). -/
def Origin.code : Origin → BitVec 2
  | .bus => 0
  | .granted => 1
  | .pin => 2

/-- End reason codes (08, R157). -/
def EndReason.code : EndReason → BitVec 4
  | .holderRelease => 1
  | .hostRevoke => 2
  | .preempted => 3
  | .expired => 4
  | .notTakenUp => 5
  | .idle => 6
  | .holderGone => 7
  | .barred => 8
  | .restart => 9

/-- Code 0 is "none" (08, R157). -/
def endReasonCode : Option EndReason → BitVec 4
  | none => 0
  | some r => r.code

/-- Refusal reason codes (08, R157). -/
def RefusalReason.code : RefusalReason → BitVec 4
  | .badArgument => 1
  | .outstanding => 2
  | .quota => 3
  | .noEntry => 4
  | .noSpace => 5
  | .deferFull => 6
  | .displaced => 7
  | .withdrawn => 8
  | .waitExpired => 9
  | .badHandle => 10
  | .notHolder => 11
  | .wrongState => 12
  | .addressInUse => 13
  | .barred => 14

/-- Roster state codes (07, R131). -/
def RosterState.code : RosterState → BitVec 3
  | .absent => 0
  | .present => 1
  | .silent => 2
  | .leaving => 3
  | .barred => 4

/-- Generator state codes (06, section 6.3). -/
def GenState.code : GenState → BitVec 2
  | .stopped => 0
  | .running => 1
  | .halting => 2
  | .halted => 3

/-- Command state codes (10, section 10.5). -/
def CommandState.code : CommandState → BitVec 2
  | .idle => 0
  | .accepted => 1
  | .executing => 2
  | .done => 3

/-- Result codes (10, R193). -/
def ResultCode.code : ResultCode → BitVec 8
  | .none => 0
  | .ok => 1
  | .badArgument => 2
  | .badHandle => 3
  | .wrongState => 4
  | .occupied => 5
  | .noEntry => 6
  | .noSpace => 7
  | .quota => 8
  | .notPresent => 9
  | .overQuota => 10

/-- Derived states of a position (02, section 2.2). -/
inductive SlotState where
  | free | quarantined | assigned | live | liveAssigned | leaving | leavingAssigned | guarded | guardedAssigned
deriving DecidableEq, Repr

/-- Derived state codes (02, section 2.2); 15 is OVERHEAD. -/
def SlotState.code : SlotState → BitVec 4
  | .free => 0
  | .quarantined => 1
  | .assigned => 2
  | .live => 3
  | .liveAssigned => 4
  | .leaving => 5
  | .leavingAssigned => 6
  | .guarded => 7
  | .guardedAssigned => 8

/-- The derived state of a leasable position (02, R29). -/
def Slot.state (x : Slot) : SlotState :=
  match x.owner, x.ownerUntil, x.guardUntil, x.incoming with
  | some _, none, _, none => .live
  | some _, none, _, some _ => .liveAssigned
  | some _, some _, _, none => .leaving
  | some _, some _, _, some _ => .leavingAssigned
  | none, _, some _, none => .guarded
  | none, _, some _, some _ => .guardedAssigned
  | none, _, none, some _ => .assigned
  | none, _, none, none => if x.quarantine then .quarantined else .free

end Sys2Proof.Machine
end

