-- ==== Sys2Proof/WellFormed.lean ====
section
/-!
DEFINITION. Which commands are spelt as their row says: the transactions that the port acknowledges and completes
(10, R183), the frame request of each CONTROL row (06, R119), and the registers REGISTER_WRITE stands for.
The meanings are total: an ill-formed command does what R183 says of such a transaction.
-/
namespace Sys2Proof

/-- A count byte of 1 to 4 with at least as many data bytes (10, R183). -/
def PortWrite.complete (w : PortWrite) : Bool :=
  decide (1 ≤ w.count.toNat) && decide (w.count.toNat ≤ 4) && decide (w.count.toNat ≤ w.data.length)

/-- The frame request that the first data byte carries (06, R119). -/
def PortWrite.frameRequest (w : PortWrite) : BitVec 2 :=
  match w.data with
  | [] => 0
  | b :: _ => b.setWidth 2

/-- A register offset: a multiple of 4 no greater than 0x40 (10, R183). -/
def offsetNamed (o : Byte) : Bool := decide (o.toNat % 4 = 0) && decide (o.toNat ≤ Config.lastOffset)

/-- The registers with a row of their own: ATTENTION, TIMING, LIMITS, CMD, VIEW_SELECT. -/
def offsetHasRow (o : Byte) : Bool := [0x0C, 0x18, 0x1C, 0x28, 0x30].contains o.toNat

/-- The write of REGISTER_WRITE's own registers (10, R183): no register with a row of its own, and no frame request. -/
def ownWrite (o : Byte) (w : PortWrite) : Bool :=
  !offsetHasRow o && (decide (o ≠ 0x04) || decide (w.frameRequest = 0))

/-- Well-formed events of the port: a write is whole and the row's own, and one still in progress is acknowledged so far
and completes no write of another row. -/
def PortEvent.wellFormed (o : Byte) : PortEvent → Bool
  | .whole w => w.complete && offsetNamed o && ownWrite o w
  | .begun w => decide (1 ≤ w.count.toNat) && decide (w.count.toNat ≤ 4) && offsetNamed o &&
      (ownWrite o w || decide (w.data.length < w.count.toNat))
  | .bytes _ => true
  | .readAddress _ => true
  | .answer _ => true
  | .stop => true

/-- The reactions among the steps of a frame start. -/
def reactionsOf (l : List FrameStep) : List FrameReaction :=
  l.filterMap fun x => match x with
    | .react r => some r
    | .item => none

/-- Well-formed commands. -/
def Instr.wellFormed : Instr → Bool
  | .powerOnReset _ => true
  | .startRequest w => w.complete && decide (w.frameRequest = 1)
  | .haltRequest w => w.complete && decide (w.frameRequest = 2)
  | .resumeRequest w => w.complete && decide (w.frameRequest = 3)
  | .haltComplete => true
  | .frameStart order => decide (reactionsOf (order.before ++ order.after)).Nodup
  | .ownerUntilVacate => true
  | .guardEnd => true
  | .incomingGoLive => true
  | .untilWriteInRange => true
  | .moveTermEndRemoval => true
  | .waitExpiry => true
  | .uplinkArrival _ => true
  | .missedTurnLimit => true
  | .claimSample _ _ => true
  | .frameClose => true
  | .notTakenUpReclaim => true
  | .idleReclaim => true
  | .request => true
  | .withdraw => true
  | .renew => true
  | .release => true
  | .query => true
  | .leave => true
  | .holderRetirement => true
  | .compactionStep => true
  | .reconsiderationPass => true
  | .pin => true
  | .unpin => true
  | .grantTo => true
  | .revoke => true
  | .setQuota => true
  | .bar => true
  | .unbar => true
  | .evict => true
  | .clearQ => true
  | .compact => true
  | .compactAbort => true
  | .flushDeferred => true
  | .restart => true
  | .unknownCommand => true
  | .timingWrite w => w.complete
  | .limitsWrite w => w.complete
  | .attentionWrite w => w.complete
  | .viewSelectWrite w => w.complete
  | .registerWrite o e => e.wellFormed o
  | .cmdWrite w => w.complete

end Sys2Proof
end

