-- ==== Sys2Proof/Machine/Operands.lean ====
section
/-!
DEFINITION. Every operand form: the bytes of a port write (10, R183), the command arguments (11, section 11.1), the
wire forms of addresses, handles and classes, the uplink message (08, R153, R154) and the notice's payload (08, R155).
-/
namespace Sys2Proof.Machine

/-! ### Addresses, handles, classes, positions -/

/-- The 5-bit address of a tributary. -/
def Trib.wire (t : Trib) : BitVec 5 := BitVec.ofNat 5 (t.val + 1)

/-- The tributary a 5-bit address names: 1 to 30 only. -/
def tribOf (a : BitVec 5) : Option Trib :=
  if h : 1 ≤ a.toNat ∧ a.toNat ≤ 30 then some ⟨a.toNat - 1, by omega⟩ else none

/-- Holder 0 is the host (01, R4). -/
def holderWire : Option Trib → BitVec 5
  | none => 0
  | some t => Trib.wire t

/-- The 8-bit form of a handle: index high, generation low (01, R2). -/
def Handle.wire (h : Handle) : BitVec 8 := BitVec.ofNat 5 h.index.val ++ h.generation

/-- The handle of an 8-bit form. -/
def handleOfWire (b : BitVec 8) : Handle :=
  ⟨⟨(b.extractLsb' 3 5).toNat, (b.extractLsb' 3 5).isLt⟩, b.extractLsb' 0 3⟩

/-- A handle field: zero when the notice names no lease (08, R164). -/
def handleField : Option Handle → BitVec 8
  | none => 0
  | some h => h.wire

/-- The class of a 3-bit field; 5 to 7 name none (03, R60). -/
def classOf (b : BitVec 3) : Option LenClass :=
  if h : b.toNat < 5 then some ⟨b.toNat, h⟩ else none

/-- The 3-bit form of a class. -/
def LenClass.wire (c : LenClass) : BitVec 3 := BitVec.ofNat 3 c.val

/-- The number of positions of a run (01, R5). -/
def runLength (c : LenClass) : Nat := 2 ^ c.val

/-- The 6-bit form of a position. -/
def Pos.wire (p : Pos) : BitVec 6 := BitVec.ofFin p

/-- The position of a 6-bit field. -/
def posOf (b : BitVec 6) : Pos := b.toFin

end Sys2Proof.Machine

namespace Sys2Proof

/-! ### Port writes -/

/-- The four byte lanes of a register, low byte first (10, R183). -/
def wordOfBytes : List Byte → Word
  | [] => 0
  | b :: bs => (b.setWidth 32) ||| (wordOfBytes bs <<< 8)

/-- The mask of the low `n` bytes. -/
def byteMask (n : Nat) : Word := BitVec.ofNat 32 (2 ^ (8 * n) - 1)

/-- What a completed write makes of a register that held `old`: its counted low bytes take the received values and
its higher bytes keep theirs (10, R183). -/
def PortWrite.merge (w : PortWrite) (old : Word) : Word :=
  let m := byteMask w.count.toNat
  (old &&& ~~~m) ||| (wordOfBytes (w.data.take w.count.toNat) &&& m)

/-- The counted bytes alone, zero above. -/
def PortWrite.value (w : PortWrite) : Word := w.merge 0

/-- Whether the write covers byte `n` (10, R183). -/
def PortWrite.covers (w : PortWrite) (n : Nat) : Bool := decide (n < w.count.toNat)

/-- The write with frame request `r` in its first data byte: the row's own field (06, R119). -/
def PortWrite.withRequest (r : BitVec 2) (w : PortWrite) : PortWrite :=
  match w.data with
  | [] => w
  | b :: bs => { w with data := ((b &&& 0xFC) ||| r.setWidth 8) :: bs }

end Sys2Proof

namespace Sys2Proof.Machine

/-! ### Uplink messages (08, R153, R154, R156) -/

/-- The parts of a received 64-bit word. -/
structure UplinkMessage where
  kind : BitVec 4
  sender : BitVec 5
  seq : Bool
  handle : Handle
  arg : BitVec 30
  check : BitVec 16
  payload : BitVec 48
deriving DecidableEq, Repr

/-- Taking the received word apart (08, R153). -/
def parseUplink (x : BitVec 64) : UplinkMessage where
  kind := x.extractLsb' 60 4
  sender := x.extractLsb' 55 5
  seq := x.getLsbD 54
  handle := handleOfWire (x.extractLsb' 46 8)
  arg := x.extractLsb' 16 30
  check := x.extractLsb' 0 16
  payload := x.extractLsb' 16 48

/-- A message is good when its check is the CRC of its payload (08, R158). -/
def UplinkMessage.good (m : UplinkMessage) : Bool := decide (crc16 (bitsOf m.payload) = m.check)

/-- The JOIN's identity, a29 to a14 (08, R154). -/
def UplinkMessage.identity (m : UplinkMessage) : BitVec 16 := m.arg.extractLsb' 14 16

/-- The REQUEST's argument (08, R154). -/
def UplinkMessage.requestArgs (m : UplinkMessage) : RequestArgs where
  cls := m.arg.extractLsb' 27 3
  priority := m.arg.extractLsb' 25 2
  term := m.arg.extractLsb' 9 16
  defer := m.arg.getLsbD 8
  preferred := m.arg.extractLsb' 2 6

/-- The uplink kinds (08, R156). -/
inductive UplinkKind where
  | keep
  | join (identity : BitVec 16)
  | engine (message : Message)
  | unknown
deriving DecidableEq, Repr

/-- The kind of a message with the fields the kind reads (08, R154, R156). -/
def UplinkMessage.sort (m : UplinkMessage) : UplinkKind :=
  if m.kind = 1 then .keep
  else if m.kind = 2 then .join m.identity
  else if m.kind = 3 then .engine (.request m.requestArgs)
  else if m.kind = 4 then .engine .withdraw
  else if m.kind = 5 then .engine (.renew m.handle (m.arg.extractLsb' 14 16))
  else if m.kind = 6 then .engine (.release m.handle)
  else if m.kind = 7 then .engine (.query m.handle)
  else if m.kind = 8 then .engine .leave
  else .unknown

/-- The uplink code of a message in the request queue (08, R156). -/
def Message.code : Message → BitVec 4
  | .request _ => 3
  | .withdraw => 4
  | .renew _ _ => 5
  | .release _ => 6
  | .query _ => 7
  | .leave => 8

/-- The handle that a message in the request queue keeps (08, R163). -/
def Message.handle : Message → Option Handle
  | .request _ => none
  | .withdraw => none
  | .renew h _ => some h
  | .release h => some h
  | .query h => some h
  | .leave => none

/-- The argument rebuilt from an entry's fields in the layout of R154 (10, R196). -/
def Message.arg : Message → BitVec 30
  | .request a => a.cls ++ a.priority ++ a.term ++ BitVec.ofBool a.defer ++ a.preferred ++ (0 : BitVec 2)
  | .withdraw => 0
  | .renew _ added => added ++ (0 : BitVec 14)
  | .release _ => 0
  | .query _ => 0
  | .leave => 0

/-! ### Notices (08, R153, R155, R156) -/

/-- Downlink kind codes (08, R156). -/
def NoticeBody.kind : NoticeBody → BitVec 4
  | .grant _ _ _ _ => 1
  | .move _ _ => 2
  | .released _ _ => 3
  | .revoked _ _ => 4
  | .reclaimed _ => 5
  | .expired _ => 6
  | .refuse _ _ => 7
  | .welcome _ _ _ => 8
  | .defer _ _ => 9
  | .renewed _ _ => 10
  | .status _ _ _ _ _ => 11

/-- Downlink arguments (08, R155), unused bits zero. -/
def NoticeBody.arg : NoticeBody → BitVec 30
  | .grant start cls offset term => Pos.wire start ++ LenClass.wire cls ++ offset ++ term ++ (0 : BitVec 2)
  | .move start offset => Pos.wire start ++ offset ++ (0 : BitVec 21)
  | .released offset reason => offset ++ reason.code ++ (0 : BitVec 23)
  | .revoked offset reason => offset ++ reason.code ++ (0 : BitVec 23)
  | .reclaimed reason => reason.code ++ (0 : BitVec 26)
  | .expired reason => reason.code ++ (0 : BitVec 26)
  | .refuse reason identity => reason.code ++ identity ++ (0 : BitVec 10)
  | .welcome identity slotQuota leaseQuota => identity ++ slotQuota ++ leaseQuota ++ (0 : BitVec 4)
  | .defer position waitLimit => position ++ waitLimit ++ (0 : BitVec 18)
  | .renewed value termFlag => value ++ BitVec.ofBool termFlag ++ (0 : BitVec 13)
  | .status state start cls value endFlag =>
    state.code ++ Pos.wire start ++ LenClass.wire cls ++ value ++ BitVec.ofBool endFlag ++ (0 : BitVec 1)

/-- The 48 payload bits of a notice (08, R153). -/
def Notice.payload (n : Notice) : BitVec 48 :=
  n.body.kind ++ Trib.wire n.address ++ BitVec.ofBool n.seqEcho ++ handleField n.handle ++ n.body.arg

/-- The 64 bits of a notice as it is sent (08, R153, R166). -/
def Notice.word (n : Notice) : BitVec 64 := n.payload ++ crc16 (bitsOf n.payload)

/-- The notice with its offset field filled; kinds without one are unchanged (08, R155, R166). -/
def Notice.withOffset (o : BitVec 3) (n : Notice) : Notice :=
  match n.body with
  | .grant start cls _ term => { n with body := .grant start cls o term }
  | .move start _ => { n with body := .move start o }
  | .released _ reason => { n with body := .released o reason }
  | .revoked _ reason => { n with body := .revoked o reason }
  | .reclaimed _ => n
  | .expired _ => n
  | .refuse _ _ => n
  | .welcome _ _ _ => n
  | .defer _ _ => n
  | .renewed _ _ => n
  | .status _ _ _ _ _ => n

/-- A GRANT with its term field filled; other kinds are unchanged (08, R168). -/
def Notice.withTerm (t : BitVec 16) (n : Notice) : Notice :=
  match n.body with
  | .grant start cls offset _ => { n with body := .grant start cls offset t }
  | _ => n

/-- Whether the notice is a GRANT (07, R149). -/
def Notice.isGrant (n : Notice) : Bool := decide (n.body.kind = 1)

/-- Whether the notice is a MOVE (05, R107). -/
def Notice.isMove (n : Notice) : Bool := decide (n.body.kind = 2)

/-- A GRANT or a RELEASED: the answers whose effect frame a reply copy records (07, R148). -/
def Notice.isGrantOrReleased (n : Notice) : Bool := decide (n.body.kind = 1) || decide (n.body.kind = 3)

/-- The stored term of a GRANT. -/
def Notice.grantTerm (n : Notice) : Option (BitVec 16) :=
  match n.body with
  | .grant _ _ _ t => some t
  | _ => none

/-- The marker (08, R159): frame number, turn (31 for OPEN), the three flags and the check. -/
def markerWord (frame : Frame) (turn : Turn) (uplinkOpen resumed noticeFollows : Bool) : BitVec 32 :=
  let t : BitVec 5 := match turn with
    | .anyone => 31
    | .owner a => Trib.wire a
  let body : BitVec 24 :=
    frame ++ t ++ BitVec.ofBool uplinkOpen ++ BitVec.ofBool resumed ++ BitVec.ofBool noticeFollows
  body ++ crc8 (bitsOf body)

/-! ### Command arguments (11, section 11.1) -/

/-- Codes of the management commands (11, section 11.1). -/
inductive CommandCode where
  | pin | unpin | grantTo | revoke | setQuota | bar | unbar | evict | clearQ | compact | compactAbort
  | flushDeferred | restart
deriving DecidableEq, Repr

/-- The 8-bit code of a command. -/
def CommandCode.code : CommandCode → Byte
  | .pin => 0x01
  | .unpin => 0x02
  | .grantTo => 0x03
  | .revoke => 0x04
  | .setQuota => 0x05
  | .bar => 0x06
  | .unbar => 0x07
  | .evict => 0x08
  | .clearQ => 0x09
  | .compact => 0x0A
  | .compactAbort => 0x0B
  | .flushDeferred => 0x0C
  | .restart => 0x5A

/-- Every code that names a command. -/
def commandCodes : List Byte :=
  [0x01, 0x02, 0x03, 0x04, 0x05, 0x06, 0x07, 0x08, 0x09, 0x0A, 0x0B, 0x0C, 0x5A]

/-- ARG0 (7-0): the handle of UNPIN and REVOKE. -/
def argHandle (a : Word) : Handle := handleOfWire (a.extractLsb' 0 8)

/-- ARG0 (4-0): the address of GRANT_TO, SET_QUOTA, BAR, UNBAR and EVICT. -/
def argAddress (a : Word) : Option Trib := tribOf (a.extractLsb' 0 5)

end Sys2Proof.Machine
end

