-- ==== Sys2Proof/Machine/Ops.lean ====
section
/-!
DEFINITION. The named operations over the records: frame arithmetic, position records, placement, the notice queue,
the lease table, retirement, moves, the roster, holder removal, and the arbiter. Each is said once; the meanings of the
commands are built from them.
-/
namespace Sys2Proof

/-- `f` at every record, with the record's number counted from `k`. -/
def mapFrom {α : Type} (f : Nat → α → α) : Nat → List α → List α
  | _, [] => []
  | k, a :: as => f k a :: mapFrom f (k + 1) as

/-- `mapFrom` keeps the number of records. -/
theorem mapFrom_length {α : Type} (f : Nat → α → α) (k : Nat) (l : List α) : (mapFrom f k l).length = l.length := by
  induction l generalizing k with
  | nil => rfl
  | cons a as ih => simp [mapFrom, ih]

/-- `f` at every record of a table, with the record's number counted from `k`. -/
def Table.mapFrom {α : Type} {n : Nat} (f : Nat → α → α) (k : Nat) (t : Table α n) : Table α n :=
  ⟨Sys2Proof.mapFrom f k t.cells, by rw [mapFrom_length, t.size]⟩

end Sys2Proof

namespace Sys2Proof.Machine

/-! ### Frame arithmetic (06, R118) -/

/-- Frame `f` has come when the counter is `now`. -/
def come (now f : Frame) : Bool := decide ((now - f).toNat < 32768)

/-- The offset of a recorded frame from a lease's start frame. -/
def offsetFrom (start f : Frame) : Nat := (f - start).toNat

/-- The offset of the effect frame of a notice sent in frame `sent`, taken with no reduction. -/
def effectOffset (start sent : Frame) (d : BitVec 4) : Nat := offsetFrom start sent + d.toNat

/-! ### Lists of the fixed names, in ascending order -/

/-- Every lease-table index. -/
def allLeases : List LeaseIdx := List.finRange 32

/-- Every tributary. -/
def allTribs : List Trib := List.finRange 30

/-- Every position. -/
def allPositions : List Pos := List.finRange 64

namespace Slot

/-- FREE: no owner, no incoming entry, no guard-until and a clear flag (02, R40). -/
def isFree (x : Slot) : Bool := x.owner.isNone && x.incoming.isNone && x.guardUntil.isNone && !x.quarantine

/-- The lease is live on the position. -/
def ownedBy (i : LeaseIdx) (x : Slot) : Bool := decide (x.owner = some i)

/-- The lease is the position's incoming entry. -/
def awaits (i : LeaseIdx) (x : Slot) : Bool :=
  match x.incoming with
  | some e => decide (e.lease = i)
  | none => false

/-- The record names the lease, as owner or as incoming. -/
def holds (i : LeaseIdx) (x : Slot) : Bool := x.ownedBy i || x.awaits i

/-- An incoming entry removed with no guard (02, R38). -/
def dropIncoming (i : LeaseIdx) (x : Slot) : Slot := if x.awaits i then { x with incoming := none } else x

/-- Vacate at once: the owner leaves and the guard runs until `g` (02, R37). -/
def vacateNow (i : LeaseIdx) (g : Frame) (x : Slot) : Slot :=
  if x.ownedBy i then { x with owner := none, ownerUntil := none, guardUntil := some g } else x

/-- The untils of a lease written on a record that holds it (01, R10; 02, R36). -/
def writeUntil (i : LeaseIdx) (ownerWord incomingWord : Option Frame) (x : Slot) : Slot :=
  let x := if x.ownedBy i then { x with ownerUntil := ownerWord } else x
  match x.incoming with
  | some e => if e.lease = i then { x with incoming := some { e with untilFrame := incomingWord } } else x
  | none => x

/-- The from-frame of a lease written on a record that awaits it (02, R36). -/
def writeFrom (i : LeaseIdx) (f : Frame) (x : Slot) : Slot :=
  match x.incoming with
  | some e => if e.lease = i then { x with incoming := some { e with fromFrame := some f } } else x
  | none => x

end Slot

/-! ### Runs (02, R27) -/

/-- A start and a class form an aligned run within 10-63. -/
def aligned (c : LenClass) (start : Nat) : Bool :=
  decide (Config.firstLeasable ≤ start) && decide (start % runLength c = 0) && decide (start + runLength c ≤ 64)

/-- Position `p` lies in the run. -/
def inRun (start : Pos) (c : LenClass) (p : Nat) : Bool :=
  decide (start.val ≤ p) && decide (p < start.val + runLength c)

namespace State

/-- The frame counter. -/
def counter (s : State) : Frame := s.fg.counter

/-! ### Position records (02) -/

/-- The record of a leasable position; overhead positions have none (02, R26). -/
def slotAt (p : Nat) (s : State) : Option Slot :=
  if p < Config.firstLeasable then none else s.slots.cells[p - Config.firstLeasable]?

/-- `f` at every leasable position, with the position's number. -/
def mapSlots (f : Nat → Slot → Slot) (s : State) : State := s.setSlots (s.slots.mapFrom f Config.firstLeasable)

/-- The records of a run. -/
def runSlots (start : Pos) (c : LenClass) (s : State) : List Slot :=
  (s.slots.cells.drop (start.val - Config.firstLeasable)).take (runLength c)

/-- The deferred-reconsider flag set by a report (04, R81). -/
def setReconsider (s : State) : State := s.setEngine { s.engine with reconsider := true }

/-- Some position became FREE between the two slot maps. -/
def someFreed (before after : Table Slot 54) : Bool :=
  (before.cells.zip after.cells).any fun x => !x.1.isFree && x.2.isFree

/-- Space freed is raised once if a position became FREE since `before` (02, R39). -/
def noteSpaceFreed (before : Table Slot 54) (s : State) : State :=
  if someFreed before s.slots then s.setReconsider else s

/-- Every incoming entry of the lease removed with no guard, and space freed raised (02, R38). -/
def removeIncoming (i : LeaseIdx) (s : State) : State :=
  (s.mapSlots fun _ => Slot.dropIncoming i).noteSpaceFreed s.slots

/-- Vacate at once of every position that names the lease (02, R37). -/
def vacateAtOnce (i : LeaseIdx) (s : State) : State :=
  (s.mapSlots fun _ x => (x.vacateNow i (s.counter + 2)).dropIncoming i).noteSpaceFreed s.slots

/-- Some position record names the lease (01, R20). -/
def positionsHold (i : LeaseIdx) (s : State) : Bool := s.slots.cells.any (Slot.holds i)

/-- Every position of the run is owned by the lease (02, R33). -/
def ownsRun (i : LeaseIdx) (start : Pos) (c : LenClass) (s : State) : Bool :=
  (s.runSlots start c).all (Slot.ownedBy i)

/-- An incoming entry with no from-frame and no until on each position of the run (02, R35). -/
def writeIncoming (i : LeaseIdx) (start : Pos) (c : LenClass) (s : State) : State :=
  s.mapSlots fun p x => if inRun start c p then { x with incoming := some ⟨i, none, none⟩ } else x

/-! ### Placement (02, section 2.5) -/

/-- A run is wholly FREE (02, R40). -/
def runFree (c : LenClass) (start : Pos) (s : State) : Bool :=
  aligned c start.val && (s.runSlots start c).all Slot.isFree

/-- The lowest aligned start of the class whose run is wholly FREE. -/
def lowestFree (c : LenClass) (s : State) : Option Pos := allPositions.find? fun p => s.runFree c p

/-- The placement search (02, R41); a preferred start of 0 is none. -/
def placement (c : LenClass) (preferred : BitVec 6) (s : State) : Option Pos :=
  if preferred ≠ 0 ∧ s.runFree c (posOf preferred) then some (posOf preferred) else s.lowestFree c

/-- The move search: the lowest wholly FREE aligned start below `start` (02, R42). -/
def moveSearch (c : LenClass) (start : Pos) (s : State) : Option Pos :=
  allPositions.find? fun p => decide (p < start) && s.runFree c p

/-! ### The notice queue (08, section 8.3) -/

/-- A notice joins the tail, or is dropped with NOTICE_DROP at a full queue (08, R165). -/
def submit (q : QueuedNotice) (s : State) : State :=
  if s.notices.length < Config.noticeCapacity then s.setNotices (s.notices ++ [q]) else s.raise .noticeDrop

/-- An informational notice with no link and no mark. -/
def inform (n : Notice) (s : State) : State := s.submit ⟨n, none, false, false, none, false⟩

/-- An effect-bearing notice that answers no message. -/
def announce (i : LeaseIdx) (n : Notice) (s : State) : State := s.submit ⟨n, some i, false, false, none, false⟩

/-- Withdrawal by handle (08, R169): a handle that is absent never matches. Every notice that names the handle goes, whomever it
addresses (01, R22), within a holder removal too, where R71 says that notices to other tributaries are not touched: a REFUSE
NOT_HOLDER to another tributary is withdrawn with the lease it names (DESIGN CHOICE, unsafe; notes/assumptions/33.md). -/
def withdrawHandle (h : Handle) (s : State) : State :=
  s.setNotices (s.notices.filter fun q => decide (q.notice.handle ≠ some h))

/-- Withdrawal by address (08, R169). -/
def withdrawAddress (t : Trib) (s : State) : State :=
  s.setNotices (s.notices.filter fun q => decide (q.notice.address ≠ t))

/-- Withdrawal of the MOVE linked to the lease (08, R169). -/
def withdrawMove (i : LeaseIdx) (s : State) : State :=
  s.setNotices (s.notices.filter fun q => !(decide (q.link = some i) && q.notice.isMove))

/-! ### The roster (07) -/

/-- The entry of a tributary. -/
def entry (t : Trib) (s : State) : RosterEntry := s.roster.get t

/-- The entry of a tributary replaced. -/
def setEntry (t : Trib) (e : RosterEntry) (s : State) : State := s.setRoster (s.roster.set t e)

/-- PRESENT or SILENT: given turns, and its messages are taken (07, R132). -/
def speaks (t : Trib) (s : State) : Bool :=
  decide ((s.entry t).state = .present) || decide ((s.entry t).state = .silent)

/-- The answer to a sequenced message: queued with the answer mark and stored as the reply copy (03, R58; 07, R147). -/
def answer (link : Option LeaseIdx) (n : Notice) (s : State) : State :=
  let s := s.submit ⟨n, link, true, false, none, false⟩
  s.setEntry n.address { s.entry n.address with reply := some ⟨n, none, false⟩ }

/-- A REFUSE that answers a sequenced message (03, R65; 05, R90). -/
def refuse (t : Trib) (seq : Bool) (h : Option Handle) (r : RefusalReason) (s : State) : State :=
  s.answer none ⟨t, h, seq, .refuse r 0⟩

/-- The length and the lease fit within the tributary's quotas (03, R61). -/
def withinQuota (t : Trib) (c : LenClass) (s : State) : Bool :=
  decide ((s.entry t).slotsHeld + runLength c ≤ (s.entry t).slotQuota) &&
    decide ((s.entry t).leasesHeld + 1 ≤ (s.entry t).leaseQuota)

/-! ### The lease table (01) -/

/-- The lease that an entry holds. -/
def leaseAt (i : LeaseIdx) (s : State) : Option Lease := (s.leases.get i).lease

/-- The lease of an entry replaced; generation and last end reason are kept. -/
def setLease (i : LeaseIdx) (l : Lease) (s : State) : State :=
  s.setLeases (s.leases.set i { s.leases.get i with lease := some l })

/-- The handle that names the entry's lease (01, R2). -/
def handleOf (i : LeaseIdx) (s : State) : Handle := ⟨i, (s.leases.get i).generation⟩

/-- Resolving a handle: none when it is stale (01, R3). -/
def resolve (h : Handle) (s : State) : Option Lease :=
  if (s.leases.get h.index).generation = h.generation then s.leaseAt h.index else none

/-- The lowest-numbered FREE entry (01, R1). -/
def freeEntry (s : State) : Option LeaseIdx := allLeases.find? fun i => (s.leaseAt i).isNone

/-- The entries in use (01, R1). -/
def entriesInUse (s : State) : Nat := s.leases.cells.countP fun e => e.lease.isSome

/-- The granted term (01, R7): the requested one, at most the max-term limit, with 65535 read as OPEN in both. -/
def grantedTerm (term : BitVec 16) (s : State) : BitVec 16 :=
  if term ≤ s.settings.maxTerm then term else s.settings.maxTerm

end State

/-- The frame at which a finite term ends, counted from the announced start frame (01, R10). -/
def Lease.termEnd (l : Lease) : Option Frame :=
  if l.term = Config.openTerm then none else l.startFrame.map (· + l.term)

/-- The lease's end frame has come, by offsets from its start frame (01, R17; 06, R118). -/
def Lease.endCome (now : Frame) (l : Lease) : Bool :=
  match l.startFrame, l.endFrame with
  | some st, some e => decide (offsetFrom st e ≤ offsetFrom st now)
  | _, _ => false

/-- The until written for the end frame: within 32767 frames of the counter, or already come (01, R10, R17;
notes/assumptions/8.md). -/
def Lease.untilWord (now : Frame) (l : Lease) : Option Frame :=
  match l.endFrame with
  | some e => if decide ((e - now).toNat ≤ Config.untilRange) || l.endCome now then some e else none
  | none => none

/-- A SENT move's effect frame `m` is earlier than the lease's end frame `e`. An end that a sent end notice named is
always later, since that notice was sent after the MOVE and at the same distance (05, R96). Any other end is a term end: the
two are compared by their offsets from the start frame, the effect frame's being that of its sending + D, unreduced (06,
R118). -/
def Lease.movesBefore (d : BitVec 4) (st m e : Frame) (l : Lease) : Bool :=
  l.endAnnounced || decide (effectOffset st (m - d.setWidth 16) d < offsetFrom st e)

/-- The until of the positions the lease owns: the old run of a SENT move keeps the move's effect frame whenever that
is earlier than the end frame (01, R10, R19; 02, R36). -/
def Lease.ownerWord (now : Frame) (d : BitVec 4) (l : Lease) : Option Frame :=
  match l.move with
  | some ⟨_, some m⟩ =>
    match l.startFrame, l.endFrame with
    | some st, some e => if l.movesBefore d st m e then some m else l.untilWord now
    | _, _ => some m
  | _ => l.untilWord now

namespace State

/-- The lease's untils written into the position records (01, R10). -/
def writeUntils (i : LeaseIdx) (s : State) : State :=
  match s.leaseAt i with
  | none => s
  | some l => s.mapSlots fun _ => Slot.writeUntil i (l.ownerWord s.counter s.settings.d) (l.untilWord s.counter)

/-- The counts that a lease creation raises (07, R134). -/
def addHeld (t : Trib) (c : LenClass) (s : State) : State :=
  s.setEntry t { s.entry t with
    slotsHeld := (s.entry t).slotsHeld + runLength c, leasesHeld := (s.entry t).leasesHeld + 1 }

/-- The counts that a retirement lowers; pins are counted in no entry (07, R134). -/
def dropHeld (l : Lease) (s : State) : State :=
  match l.holder with
  | none => s
  | some t => s.setEntry t { s.entry t with
      slotsHeld := (s.entry t).slotsHeld - runLength l.cls, leasesHeld := (s.entry t).leasesHeld - 1 }

/-- A lease of origin BUS or GRANTED created ANNOUNCING in entry `i` (01, R15): the record, the incoming entries and
the held counts. The notice is queued by the caller. -/
def createLease (i : LeaseIdx) (t : Trib) (o : Origin) (start : Pos) (c : LenClass) (priority : BitVec 2)
    (term : BitVec 16) (seq : Bool) (s : State) : State :=
  let l : Lease :=
    ⟨.announcing, some t, o, start, c, priority, s.grantedTerm term, none, none, none, seq, false, 0, none, false⟩
  ((s.setLeases (s.leases.set i ⟨(s.leases.get i).generation, none, some l⟩)).writeIncoming i start c).addHeld t c

/-- The GRANT notice of a lease just created (03, R64). -/
def grantNotice (i : LeaseIdx) (t : Trib) (start : Pos) (c : LenClass) (term : BitVec 16) (seq : Bool)
    (s : State) : Notice :=
  ⟨t, some (s.handleOf i), seq, .grant start c 0 (s.grantedTerm term)⟩

/-! ### The compaction worker's reactions (05) -/

/-- The compaction-step-ready flag. -/
def setStepReady (b : Bool) (s : State) : State := s.setEngine { s.engine with stepReady := b }

/-- The worker's move is overtaken: the scan point is the old start + 1 and the worker returns to STEP (05, R112). -/
def overtake (h : Handle) (oldStart : Pos) (s : State) : State :=
  if s.worker.underMove = some h then
    (s.setWorker { s.worker with status := .active .step, scan := oldStart.val + 1, underMove := none }).setStepReady
      true
  else s

/-- The worker's move is completed: counted, and the scan point is the new start (05, R111). -/
def completeMove (h : Handle) (newStart : Pos) (s : State) : State :=
  if s.worker.underMove = some h then
    (s.setWorker ⟨.active .step, newStart.val, none, min 255 (s.worker.moves + 1)⟩).setStepReady true
  else s

/-- The worker becomes OFF and COMPACT_END is raised (05, R113). -/
def endWorker (s : State) : State :=
  ((s.setWorker { s.worker with status := .off, underMove := none }).setStepReady false).raise .compactEnd

/-! ### Retirement (01, R22) -/

/-- A retired lease's GRANT is no longer a reply copy (07, R149). -/
def forgetGrantCopy (l : Lease) (h : Handle) (s : State) : State :=
  match l.holder with
  | none => s
  | some t =>
    match (s.entry t).reply with
    | none => s
    | some c =>
      if l.origin = .bus ∧ c.notice.isGrant ∧ c.notice.handle = some h then
        s.setEntry t { s.entry t with reply := none, lastSeq := none }
      else s

/-- The entry set FREE: the end reason kept, the generation advanced (01, R22 step 5). -/
def freeLease (i : LeaseIdx) (r : EndReason) (s : State) : State :=
  s.setLeases (s.leases.set i ⟨(s.leases.get i).generation + 1, some r, none⟩)

/-- Retiring a lease, whole (01, R22): held counts, position records (vacated at once, R37, where it is still an
owner), the move and the worker, its unsent notices, its GRANT copy (R149), the entry, and entry freed (R81). -/
def retire (i : LeaseIdx) (r : EndReason) (s : State) : State :=
  match s.leaseAt i with
  | none => s
  | some l =>
    (((((((s.dropHeld l).vacateAtOnce i).overtake (s.handleOf i) l.start).withdrawHandle (s.handleOf i)).forgetGrantCopy
      l (s.handleOf i)).freeLease i r).setReconsider)

/-- The notice that tells the holder of a lease retired by a report; a pin has no holder to tell. -/
def tellHolder (l : Lease) (h : Handle) (body : NoticeBody) (s : State) : State :=
  match l.holder with
  | none => s
  | some t => s.inform ⟨t, some h, l.seqEcho, body⟩

/-- Retirement on a full vacate (01, R20): the decided reason stands, unannounced, when a sent end notice named the end
frame; otherwise the term end brought it, and the reason is EXPIRED with an EXPIRED notice (05, R99). -/
def retireVacated (i : LeaseIdx) (s : State) : State :=
  match s.leaseAt i with
  | none => s
  | some l =>
    if l.state = .ending ∧ l.endAnnounced then s.retire i (l.endReason.getD .expired)
    else (s.retire i .expired).tellHolder l (s.handleOf i) (.expired .expired)

/-- A reclaim (05, R100): retired at once, and RECLAIMED queued. -/
def reclaim (i : LeaseIdx) (r : EndReason) (s : State) : State :=
  match s.leaseAt i with
  | none => s
  | some l => (s.retire i r).tellHolder l (s.handleOf i) (.reclaimed r)

/-! ### Moves (05, section 5.6) -/

/-- Removing a move (05, R107): the MOVE withdrawn, the target's entries removed, the sub-record deleted, and the
worker told. -/
def removeMove (i : LeaseIdx) (s : State) : State :=
  match s.leaseAt i with
  | none => s
  | some l =>
    (((s.withdrawMove i).removeIncoming i).setLease i { l with move := none }).overtake (s.handleOf i) l.start

/-- The lease's move when it is UNSENT. -/
def hasUnsentMove (i : LeaseIdx) (s : State) : Bool :=
  match s.leaseAt i with
  | some l => match l.move with
    | some m => m.effect.isNone
    | none => false
  | none => false

/-- An end decided for a PENDING or ACTIVE lease (01, R18): ENDING with its reason, an UNSENT move removed (R96). -/
def decideEnd (i : LeaseIdx) (r : EndReason) (s : State) : State :=
  let s := if s.hasUnsentMove i then s.removeMove i else s
  match s.leaseAt i with
  | none => s
  | some l => s.setLease i { l with state := .ending, endReason := some r }

/-! ### Holder removal (03, R71) -/

/-- The leases that the tributary holds, in ascending order of index. -/
def leasesOf (t : Trib) (s : State) : List LeaseIdx :=
  allLeases.filter fun i => match s.leaseAt i with
    | some l => decide (l.holder = some t)
    | none => false

/-- The holder-retirement flag of a tributary. -/
def setRetireFlag (t : Trib) (b : Bool) (s : State) : State :=
  s.setEngine { s.engine with retireFlags := s.engine.retireFlags.set t b }

/-- The entry set to its final state: nothing of the device is kept, the quotas are (03, R71 step 5; 11, R204). -/
def clearEntry (t : Trib) (final : RosterState) (s : State) : State :=
  s.setEntry t { s.entry t with state := final, identity := none, missed := 0, lastSeq := none, reply := none }

/-- The holder removal (03, R71): leases, queue entries, unsent notices, flag, roster entry, ROSTER. A notice to another
tributary stays unless it names a lease retired here (DESIGN CHOICE, unsafe; notes/assumptions/33.md). -/
def holderRemoval (t : Trib) (r : EndReason) (final : RosterState) (s : State) : State :=
  let s := (s.leasesOf t).foldl (fun s i => s.retire i r) s
  let s := s.setRequests (s.requests.filter fun q => decide (q.sender ≠ t))
  let s := s.setDeferred (s.deferred.filter fun d => decide (d.sender ≠ t))
  (((s.withdrawAddress t).setRetireFlag t false).clearEntry t final).raise .roster

end State

/-! ### The arbiter (03, R51, R52, R53) -/

/-- The work that the arbiter hands to the engine. -/
inductive Work where
  | bus (r : Request)
  | command
  | retirement (t : Trib)
  | compaction
  | reconsider
deriving DecidableEq, Repr

namespace State

/-- The notice reserve: at least 3 free entries (03, R52). -/
def reserveMet (s : State) : Bool := decide (s.notices.length + Config.noticeReserve ≤ Config.noticeCapacity)

/-- The Bus requester's work, when ready. -/
def busWork (s : State) : Option Work :=
  match s.requests with
  | [] => none
  | r :: _ => if s.reserveMet then some (.bus r) else none

/-- The Management requester's work, when ready. -/
def managementWork (s : State) : Option Work :=
  if s.cmd.state = .accepted ∧ s.reserveMet then some .command else none

/-- The lowest address whose holder-retirement flag is set. -/
def lowestRetirement (s : State) : Option Trib := allTribs.find? fun t => s.engine.retireFlags.get t

/-- The Internal requester's work, when ready: a holder retirement needs no reserve (03, R52, R53). -/
def internalWork (s : State) : Option Work :=
  match s.lowestRetirement with
  | some t => some (.retirement t)
  | none =>
    if s.engine.stepReady ∧ s.reserveMet then some .compaction
    else if s.engine.reconsider ∧ s.reserveMet then some .reconsider
    else none

/-- The arbiter's choice: the first ready requester after the last-served one, in the order Bus, Management, Internal
(03, R51). -/
def nextWork (s : State) : Option Work :=
  match s.engine.lastServed with
  | .internal => (s.busWork.or s.managementWork).or s.internalWork
  | .bus => (s.managementWork.or s.internalWork).or s.busWork
  | .management => (s.internalWork.or s.busWork).or s.managementWork

/-- The requester recorded as last-served. -/
def serve (r : Requester) (s : State) : State := s.setEngine { s.engine with lastServed := r }

end State

end Sys2Proof.Machine
end

