-- ==== Sys2Proof/Machine/Reports.lean ====
section
/-!
DEFINITION. The reports between blocks (03, R54): what the slot map unit and the lease engine do at a frame start (R30-R33,
R10, R105, R85), the limit a missed turn reached (R137) and the reclaims of a verdict (R178, R179); `hear`, which takes those
that come before an engine item, and `settle`, which takes every one still outstanding before an event later in the frame
(notes/assumptions/3.md). The rows of these reports are in Machine/FrameRows.lean and Machine/Claims.lean.
-/
namespace Sys2Proof.Machine

namespace Slot

/-- First step of a frame start: an owner whose owner-until has come leaves, and the guard runs to F + 1 (02, R30). -/
def vacateDue (now : Frame) (x : Slot) : Slot :=
  match x.owner, x.ownerUntil with
  | some _, some u => if come now u then { x with owner := none, ownerUntil := none, guardUntil := some (now + 1) } else x
  | _, _ => x

/-- Second step: a guard whose guard-until has come ends (02, R31). -/
def endGuard (now : Frame) (x : Slot) : Slot :=
  match x.guardUntil with
  | some g => if come now g then { x with guardUntil := none } else x
  | none => x

/-- Third step: an incoming entry whose from-frame has come becomes the owner of a position with no owner and no
guard (02, R32). -/
def goLiveDue (now : Frame) (x : Slot) : Slot :=
  match x.incoming with
  | some ⟨i, some f, u⟩ =>
    if come now f ∧ x.owner = none ∧ x.guardUntil = none then
      { x with owner := some i, ownerUntil := u, incoming := none }
    else x
  | _ => x

end Slot

/-- A lease gone live (01, R17): a PENDING lease is ACTIVE with its term's end frame; an ENDING one takes the earlier
of the term end and the end frame already fixed. -/
def Lease.live (l : Lease) : Lease :=
  match l.state with
  | .pending => { l with state := .active, endFrame := l.termEnd }
  | .ending =>
    match l.termEnd, l.endFrame, l.startFrame with
    | some t, some e, some st =>
      if offsetFrom st e ≤ l.term.toNat then l else { l with endFrame := some t, endAnnounced := false }
    | some t, none, _ => { l with endFrame := some t, endAnnounced := false }
    | _, _, _ => l
  | .announcing => l
  | .active => l

namespace State

/-- The owners of the first slot map that the second no longer has. -/
def ownersLost (before after : Table Slot 54) : List LeaseIdx :=
  (before.cells.zip after.cells).filterMap fun x => if x.2.owner = none then x.1.owner else none

/-- The owners of the second slot map that the first did not have. -/
def ownersGained (before after : Table Slot 54) : List LeaseIdx :=
  (before.cells.zip after.cells).filterMap fun x => if x.1.owner = none then x.2.owner else none

/-- A fully-vacated report, if no record holds the lease any longer (02, R33). -/
def reportVacated (s : State) (i : LeaseIdx) : State := if s.positionsHold i then s else s.retireVacated i

/-- The first step and its reports, in ascending order of index (02, R30, R33; 01, R20). -/
def vacateStep (s : State) : State :=
  let t := s.mapSlots fun _ => Slot.vacateDue s.counter
  (allLeases.filter fun i => (ownersLost s.slots t.slots).contains i).foldl reportVacated t

/-- The second step; space freed is raised once (02, R31). -/
def guardStep (s : State) : State := (s.mapSlots fun _ => Slot.endGuard s.counter).noteSpaceFreed s.slots

/-- The target of a move has gone live (01, R14, R17; 05, R104, R111). -/
def moveArrived (i : LeaseIdx) (l : Lease) (target : Pos) (s : State) : State :=
  (s.setLease i { l with start := target, move := none }).completeMove (s.handleOf i) target

/-- A lease has gone live (01, R17): its record, and the until written under R10. -/
def leaseLive (i : LeaseIdx) (l : Lease) (s : State) : State := (s.setLease i l.live).writeUntils i

/-- A gone-live report: every position of the move's target run, or of the lease's run, is owned (02, R33). -/
def reportLive (s : State) (i : LeaseIdx) : State :=
  match s.leaseAt i with
  | none => s
  | some l =>
    match l.move with
    | some m => if s.ownsRun i m.target l.cls then s.moveArrived i l m.target
      else if s.ownsRun i l.start l.cls then s.leaseLive i l else s
    | none => if s.ownsRun i l.start l.cls then s.leaseLive i l else s

/-- The third step and the gone-live reports (02, R32, R33). -/
def goLiveStep (s : State) : State :=
  let t := s.mapSlots fun _ => Slot.goLiveDue s.counter
  (allLeases.filter fun i => (ownersGained s.slots t.slots).contains i).foldl reportLive t

/-- The until of a lease whose end frame comes within 32767 frames at this frame start (01, R10). -/
def untilInRange (s : State) (i : LeaseIdx) : State :=
  match s.leaseAt i with
  | some l => match l.endFrame with
    | some e => if (e - s.counter).toNat = Config.untilRange then s.writeUntils i else s
    | none => s
  | none => s

/-- The engine's until writes of a frame start (01, R10). -/
def untilsStep (s : State) : State := allLeases.foldl untilInRange s

/-- An UNSENT move whose lease's end frame has come is removed; if the lease then holds no position, that is the full
vacate (05, R105; notes/assumptions/9.md). -/
def endMoveOf (s : State) (i : LeaseIdx) : State :=
  match s.leaseAt i with
  | some l =>
    if s.hasUnsentMove i ∧ l.endCome s.counter then (s.removeMove i).reportVacated i else s
  | none => s

/-- The engine's removal of moves overtaken by a term end (05, R105). -/
def moveEndsStep (s : State) : State := allLeases.foldl endMoveOf s

/-- The REFUSE to the sender of a deferred entry that the list gives up (04, R78, R85). -/
def refuseDeferred (r : RefusalReason) (s : State) (d : Deferred) : State :=
  s.inform ⟨d.sender, none, d.seq, .refuse r 0⟩

/-- Wait expiry at a frame start (04, R85): in list order, whether or not the notice finds room. -/
def waitsStep (s : State) : State :=
  let t := s.setDeferred (s.deferred.filter fun d => !come s.counter d.waitUntil)
  (s.deferred.filter fun d => come s.counter d.waitUntil).foldl (refuseDeferred .waitExpired) t

/-! ### Taking what is due -/

/-- The slot map unit's first step, if due. -/
def takeVacate (s : State) : State :=
  if s.due.vacate then (s.setDue { s.due with vacate := false }).vacateStep else s

/-- The slot map unit's second step, if due; the first comes before it. -/
def takeGuardEnd (s : State) : State :=
  let s := s.takeVacate
  if s.due.guardEnd then (s.setDue { s.due with guardEnd := false }).guardStep else s

/-- The slot map unit's third step, if due; the first two come before it. -/
def takeGoLive (s : State) : State :=
  let s := s.takeGuardEnd
  if s.due.goLive then (s.setDue { s.due with goLive := false }).goLiveStep else s

/-- The until writes, if due. -/
def takeUntils (s : State) : State :=
  if s.due.untils then (s.setDue { s.due with untils := false }).untilsStep else s

/-- The move removals, if due. -/
def takeMoveEnds (s : State) : State :=
  if s.due.moveEnds then (s.setDue { s.due with moveEnds := false }).moveEndsStep else s

/-- The wait expiries, if due. -/
def takeWaits (s : State) : State :=
  if s.due.waits then (s.setDue { s.due with waits := false }).waitsStep else s

/-- One reaction to a frame start. -/
def takeReaction (s : State) : FrameReaction → State
  | .slotMap => s.takeGoLive
  | .untils => s.takeUntils
  | .moveEnds => s.takeMoveEnds
  | .waits => s.takeWaits

/-- The limit that a missed turn reached (07, R137): SILENT with ROSTER raised, or LEAVING with the holder-retirement
flag set. -/
def applyLimit (t : Trib) (r : MissedLimit) (s : State) : State :=
  match r with
  | .silent => (s.setEntry t { s.entry t with state := .silent }).raise .roster
  | .leaving => (s.setEntry t { s.entry t with state := .leaving }).setRetireFlag t true

/-- The missed-turn limit, if one was reached. -/
def takeMissed (s : State) : State :=
  match s.due.missed with
  | none => s
  | some (t, r) => (s.setDue { s.due with missed := none }).applyLimit t r

/-- Reclaims taken in their order. -/
def reclaimAll (s : State) (rs : List (LeaseIdx × EndReason)) : State := rs.foldl (fun s x => s.reclaim x.1 x.2) s

/-- The reclaims of the last verdict that are still to be made (09, R180). -/
def takeReclaims (s : State) : State := (s.setDue { s.due with reclaims := [] }).reclaimAll s.due.reclaims

/-- A frame start at the slot map unit that has begun is gone through: its steps are one event (02, section 2.3). One that
has not begun stays due. -/
def finishSlotMap (s : State) : State := if s.due.vacate then s else s.takeGoLive

/-- What is left of an event already given is gone through: the slot map unit's application, the turn outcome with its limit
(07, R137) and the verdict with its reclaims (09, R180). No snapshot or read falls inside one (10, R195). -/
def finishEvents (s : State) : State := s.finishSlotMap.takeMissed.takeReclaims

/-- A frame start is before an item or after it (05, R93, R98): the item finds the slot map unit's application and the move
removals both still due, or both made. A lease whose term has ended with an UNSENT move is so never found between the two,
where it holds no position and has not retired (05, R105; notes/assumptions/3.md). -/
def finishTermEnds (s : State) : State := if s.due.vacate && s.due.moveEnds then s else s.takeGoLive.takeMoveEnds

/-- What comes before an engine item: the events already given, and the until writes of a frame start (03, R54). A frame start
at which no term has ended yet (03, R50; 05, R93) and the waits (04, R85) stay due, since an item may come before them too
(notes/assumptions/3.md). -/
def hear (s : State) : State := s.finishTermEnds.takeMissed.takeReclaims.takeUntils

/-- Every outstanding report is taken, the frame start's first (03, R54). -/
def settle (s : State) : State := s.takeGoLive.takeUntils.takeMoveEnds.takeWaits.takeMissed.takeReclaims

end State

end Sys2Proof.Machine
end

