-- ==== Sys2Proof/Machine/Claims.lean ====
section
/-!
DEFINITION. The claim monitor: samples (09, R172-R174), the frame close (09, R176, R177) and the reclaims it decides
(09, R178-R180).
-/
namespace Sys2Proof.Machine

namespace State

/-- A trespass report (02, R44): the flag is set, and QUARANTINE is raised if it was clear. -/
def trespass (p : Nat) (x : Slot) (s : State) : State :=
  (s.mapSlots fun q y => if q = p then { y with quarantine := true } else y).raiseIf (!x.quarantine) .quarantine

/-- A claim on a leasable position (09, R174): credited to a tributary's lease, ignored on a pin, or trespass. -/
def judgeClaim (p : Nat) (s : State) : State :=
  match s.slotAt p with
  | none => s
  | some x =>
    match x.owner with
    | none => s.trespass p x
    | some i =>
      match s.leaseAt i with
      | some l => if l.holder.isSome then s.setCredited (s.credited.set i true) else s
      | none => s

/-- The sample of one position (09, R172): overhead trespass in 0-5, not judged in 6-9. -/
def sample (p : Pos) (s : State) : State :=
  if p.val < 6 then s.raise .overheadTrespass else s.judgeClaim p.val

/-- A lease that the verdict judges: ACTIVE, with a tributary as holder (09, R177). -/
def judged (l : Lease) : Bool := decide (l.state = .active) && l.holder.isSome

/-- The use fields after the verdict (09, R177; 01, R13). -/
def useFields (credited : Bool) (l : Lease) : Lease :=
  if credited then { l with takenUp := true, idle := 0 } else { l with idle := min 255 (l.idle + 1) }

/-- The take-up test (09, R178). -/
def failsTakeUp (s : State) (l : Lease) : Bool :=
  match l.startFrame with
  | some st => !l.takenUp && decide (s.settings.u.toNat ≤ offsetFrom st s.counter + 1)
  | none => false

/-- The idle test (09, R179). -/
def failsIdle (s : State) (l : Lease) : Bool :=
  l.takenUp && decide (s.settings.idleLimit ≠ 0) && decide (s.settings.idleLimit.toNat ≤ l.idle)

/-- The entry after the verdict, at index `k`. -/
def judgeEntry (credited : Table Bool 32) (k : Nat) (e : LeaseEntry) : LeaseEntry :=
  match e.lease with
  | some l => if judged l then { e with lease := some (useFields (credited.cells.getD k false) l) } else e
  | none => e

/-- What the verdict decides for the lease at `i`, its use fields brought up to date. -/
def verdictOf (s : State) (i : LeaseIdx) : Option (LeaseIdx × EndReason) :=
  match s.leaseAt i with
  | some l =>
    if judged l then
      if s.failsTakeUp l then some (i, .notTakenUp) else if s.failsIdle l then some (i, .idle) else none
    else none
  | none => none

/-- The verdict (09, R176, R177): the use fields, the reclaims decided, and the credited set emptied. -/
def closeFrame (s : State) : State :=
  let s := s.setLeases (s.leases.mapFrom (judgeEntry s.credited) 0)
  ((s.setDue { s.due with reclaims := allLeases.filterMap s.verdictOf }).setCredited
    (Table.replicate 32 false)).setFg { s.fg with phase := .between }

/-- The outstanding reclaims up to and including the first with the reason, in ascending order; none if no lease is to
be reclaimed for it (09, R180). -/
def reclaimsThrough (r : EndReason) : List (LeaseIdx × EndReason) → Option (List (LeaseIdx × EndReason))
  | [] => none
  | x :: rest => if x.2 = r then some [x] else (reclaimsThrough r rest).map (x :: ·)

/-- The next reclaim with the reason is made, with those that come before it. -/
def takeReclaim (r : EndReason) (s : State) : State :=
  match reclaimsThrough r s.due.reclaims with
  | none => s
  | some xs => (s.setDue { s.due with reclaims := s.due.reclaims.drop xs.length }).reclaimAll xs

end State

/-- CLAIM_SAMPLE (09, R172, R174): in a frame in progress; a position with no claim seen causes nothing. -/
def execClaimSample (position : Fin 64) (claim : Bool) (s : State) : Result :=
  .next (let t := s.settle
    if t.fg.phase = .inFrame ∧ claim then t.sample position else t)

/-- FRAME_CLOSE (09, R176): after position 63 of a frame that runs to its end. -/
def execFrameClose (s : State) : Result :=
  .next (let t := s.settle
    if t.fg.phase = .inFrame then t.closeFrame else t)

/-- NOT_TAKEN_UP_RECLAIM (09, R178; 05, R100). -/
def execNotTakenUpReclaim (s : State) : Result := .next (s.takeReclaim .notTakenUp)

/-- IDLE_RECLAIM (09, R179; 05, R100). -/
def execIdleReclaim (s : State) : Result := .next (s.takeReclaim .idle)

end Sys2Proof.Machine
end

