-- ==== Sys2Proof/Machine/Requests.lean ====
section
/-!
DEFINITION. The engine items of the Bus requester (03, R58): REQUEST with admission, preemption and deferral (03,
sections 3.3 and 3.4; 04, R77, R78), WITHDRAW (04, R80), RENEW (05, R90-R92), RELEASE (05, R94), QUERY (03, R70) and LEAVE
(03, R72).
-/
namespace Sys2Proof.Machine

namespace State

/-- The head leaves the request queue as the item begins, and Bus is recorded as last-served (03, R51, R56). -/
def takeHead (s : State) : State := (s.setRequests s.requests.tail).serve .bus

/-- A bus item (03, R58): the arbiter hands the head of the request queue to the engine. `act` says what the row's kind
does; a head of another kind is another row's. A message whose sender no longer speaks is discarded. -/
def busItem (act : Request → Option (State → State)) (s : State) : State :=
  match s.nextWork with
  | some (.bus r) =>
    match act r with
    | some f => if s.speaks r.sender then f s.takeHead else s.takeHead
    | none => s
  | _ => s

/-! ### Preemption (03, section 3.4) -/

/-- A candidate victim for a request of length class `c` (03, R66). -/
def isCandidate (r : Request) (priority : BitVec 2) (c : LenClass) (s : State) (l : Lease) : Bool :=
  decide (l.state = .active) && decide (l.origin ≠ .pin) && decide (l.holder ≠ some r.sender) &&
    decide (l.priority < priority) && l.move.isNone && decide (c ≤ l.cls) &&
    (s.runSlots l.start c).all fun x => !x.quarantine

/-- The candidates in ascending order of index. -/
def candidates (r : Request) (priority : BitVec 2) (c : LenClass) (s : State) : List (LeaseIdx × Lease) :=
  allLeases.filterMap fun i => match s.leaseAt i with
    | some l => if s.isCandidate r priority c l then some (i, l) else none
    | none => none

/-- The second is at least as good a victim as the first, which has the lower index (03, R67): lower priority, then
shorter run, then the higher index. -/
def preferred (a b : Lease) : Bool :=
  decide (b.priority < a.priority) || (decide (b.priority = a.priority) && decide (b.cls ≤ a.cls))

/-- The victim among candidates given in ascending order of index (03, R67). -/
def chooseVictim : List (LeaseIdx × Lease) → Option (LeaseIdx × Lease)
  | [] => none
  | x :: rest => some (rest.foldl (fun best y => if preferred best.2 y.2 then y else best) x)

/-- The REVOKED of a lease whose end is decided (03, R68; 05, R97). -/
def revokedNotice (l : Lease) (h : Handle) (r : EndReason) (t : Trib) : Notice := ⟨t, some h, l.seqEcho, .revoked 0 r⟩

/-- The end of a PENDING or ACTIVE lease decided with a linked REVOKED (01, R18; 05, R97; 03, R68). -/
def endWithRevoked (i : LeaseIdx) (l : Lease) (r : EndReason) (s : State) : State :=
  let t := s.decideEnd i r
  match l.holder with
  | none => t
  | some t' => t.announce i (revokedNotice l (s.handleOf i) r t')

/-! ### Grant, deferral, refusal -/

/-- A grant to a request (03, R64): the lease created, the GRANT queued as the answer. -/
def grantRequest (r : Request) (a : RequestArgs) (c : LenClass) (i : LeaseIdx) (start : Pos) (s : State) : State :=
  let n := s.grantNotice i r.sender start c a.term r.seq
  (s.createLease i r.sender .bus start c a.priority a.term r.seq).answer (some i) n

/-- A preemption (03, R68): the victim's end first, then the newcomer on the first positions of its run. -/
def preempt (r : Request) (a : RequestArgs) (c : LenClass) (i : LeaseIdx) (victim : LeaseIdx × Lease)
    (s : State) : State :=
  (s.endWithRevoked victim.1 victim.2 .preempted).grantRequest r a c i victim.2.start

/-- The place of a new entry: after every entry of equal or higher priority (04, R76). -/
def rankOf (priority : BitVec 2) (ds : List Deferred) : Nat :=
  (ds.takeWhile fun d => decide (priority ≤ d.priority)).length

/-- The entry inserted at its rank (04, R76). -/
def insertRanked (d : Deferred) (ds : List Deferred) : List Deferred :=
  ds.take (rankOf d.priority ds) ++ d :: ds.drop (rankOf d.priority ds)

/-- The deferred entry of a request (04, R77). -/
def deferredOf (r : Request) (a : RequestArgs) (c : LenClass) (s : State) : Deferred :=
  ⟨r.sender, r.seq, c, a.priority, a.term, if a.preferred = 0 then none else some a.preferred, r.arrival,
    s.counter + s.settings.waitLimit.setWidth 16⟩

/-- The entry inserted and DEFER queued as the answer (04, R77). -/
def insertDeferred (r : Request) (a : RequestArgs) (c : LenClass) (s : State) : State :=
  let place := rankOf a.priority s.deferred + 1
  (s.setDeferred (insertRanked (s.deferredOf r a c) s.deferred)).answer none
    ⟨r.sender, none, r.seq, .defer (BitVec.ofNat 4 place) s.settings.waitLimit⟩

/-- A request reaches deferral (04, R77, R78): a full list gives up its tail to a request of higher priority, or the
request is refused DEFER_FULL. -/
def deferRequest (r : Request) (a : RequestArgs) (c : LenClass) (s : State) : State :=
  if s.deferred.length < Config.deferredCapacity then s.insertDeferred r a c
  else match s.deferred.getLast? with
    | some tail =>
      if tail.priority < a.priority then
        ((s.setDeferred s.deferred.dropLast).refuseDeferred .displaced tail).insertDeferred r a c
      else s.refuse r.sender r.seq none .deferFull
    | none => s.refuse r.sender r.seq none .deferFull

/-- A refusal that also raises TABLE_FULL (03, R62, R63, R65). -/
def refuseFull (r : Request) (why : RefusalReason) (s : State) : State :=
  (s.refuse r.sender r.seq none why).raise .tableFull

/-- Step 6 without a placement (03, R63): preemption, else deferral, else NO_SPACE. -/
def noSpace (r : Request) (a : RequestArgs) (c : LenClass) (i : LeaseIdx) (s : State) : State :=
  match (if s.settings.preemptEn then chooseVictim (s.candidates r a.priority c) else none) with
  | some v => s.preempt r a c i v
  | none => if a.defer then s.deferRequest r a c else s.refuseFull r .noSpace

/-- The sender has a deferred request (03, R59). -/
def hasDeferred (t : Trib) (s : State) : Bool := s.deferred.any fun d => decide (d.sender = t)

/-- The admission checks of a REQUEST in their order (03, section 3.3). -/
def admitRequest (r : Request) (a : RequestArgs) (s : State) : State :=
  if s.hasDeferred r.sender then s.refuse r.sender r.seq none .outstanding
  else match classOf a.cls with
    | none => s.refuse r.sender r.seq none .badArgument
    | some c =>
      if a.term = 0 then s.refuse r.sender r.seq none .badArgument
      else if !s.withinQuota r.sender c then s.refuse r.sender r.seq none .quota
      else match s.freeEntry with
        | none => if a.defer then s.deferRequest r a c else s.refuseFull r .noEntry
        | some i =>
          match s.placement c a.preferred with
          | some start => s.grantRequest r a c i start
          | none => s.noSpace r a c i

/-! ### WITHDRAW, RENEW, RELEASE, QUERY, LEAVE -/

/-- WITHDRAW (04, R80). -/
def withdrawDeferred (r : Request) (s : State) : State :=
  if s.hasDeferred r.sender then
    (s.setDeferred (s.deferred.filter fun d => decide (d.sender ≠ r.sender))).refuse r.sender r.seq none .withdrawn
  else s.refuse r.sender r.seq none .badArgument

/-- The renewal cap (01, R8). -/
def renewalCap (s : State) : BitVec 16 :=
  if s.settings.maxTerm = Config.openTerm then 65534 else s.settings.maxTerm

/-- The term after a renewal (01, R8): the sum limited to the cap, never shorter than before. -/
def renewedTerm (term added : BitVec 16) (s : State) : BitVec 16 :=
  if s.renewalCap < term then term else BitVec.ofNat 16 (min (term.toNat + added.toNat) s.renewalCap.toNat)

/-- An accepted RENEW (05, R91, R92). -/
def extend (r : Request) (h : Handle) (l : Lease) (added : BitVec 16) (s : State) : State :=
  let l' := { l with term := s.renewedTerm l.term added }
  match l.state, l'.termEnd with
  | .active, some e =>
    ((s.setLease h.index { l' with endFrame := some e }).writeUntils h.index).answer none
      ⟨r.sender, some h, r.seq, .renewed e false⟩
  | _, _ => (s.setLease h.index l').answer none ⟨r.sender, some h, r.seq, .renewed l'.term true⟩

/-- The lease holds a SENT move (05, R90 step 5). -/
def sentMove (l : Lease) : Bool :=
  match l.move with
  | some m => m.effect.isSome
  | none => false

/-- RENEW (05, R90). -/
def renewLease (r : Request) (h : Handle) (added : BitVec 16) (s : State) : State :=
  match s.resolve h with
  | none => s.refuse r.sender r.seq (some h) .badHandle
  | some l =>
    if l.holder ≠ some r.sender then s.refuse r.sender r.seq (some h) .notHolder
    else if l.state = .ending ∨ l.term = Config.openTerm ∨ sentMove l then
      s.refuse r.sender r.seq (some h) .wrongState
    else s.extend r h l added

/-- RELEASE (05, R94). -/
def releaseLease (r : Request) (h : Handle) (s : State) : State :=
  match s.resolve h with
  | none => s.refuse r.sender r.seq (some h) .badHandle
  | some l =>
    if l.holder ≠ some r.sender then s.refuse r.sender r.seq (some h) .notHolder
    else
      let n : Notice := ⟨r.sender, some h, r.seq, .released 0 .holderRelease⟩
      match l.state with
      | .ending => s.refuse r.sender r.seq (some h) .wrongState
      | .announcing => (s.retire h.index .holderRelease).answer none n
      | .pending => (s.decideEnd h.index .holderRelease).answer (some h.index) n
      | .active => (s.decideEnd h.index .holderRelease).answer (some h.index) n

/-- The STATUS body of a lease (03, R70): its end frame if it holds one, otherwise its term. -/
def statusBody (l : Lease) : NoticeBody :=
  match l.endFrame with
  | some e => .status l.state l.start l.cls e true
  | none => .status l.state l.start l.cls l.term false

/-- QUERY (03, R70). -/
def queryLease (r : Request) (h : Handle) (s : State) : State :=
  match s.resolve h with
  | none => s.refuse r.sender r.seq (some h) .badHandle
  | some l =>
    if l.holder ≠ some r.sender then s.refuse r.sender r.seq (some h) .notHolder
    else s.answer none ⟨r.sender, some h, r.seq, statusBody l⟩

end State

/-- REQUEST (03, R58 and section 3.3). -/
def execRequest (s : State) : Result :=
  .next (s.hear.busItem fun r => match r.message with
    | .request a => some (State.admitRequest r a)
    | _ => none)

/-- WITHDRAW (04, R80). -/
def execWithdraw (s : State) : Result :=
  .next (s.hear.busItem fun r => match r.message with
    | .withdraw => some (State.withdrawDeferred r)
    | _ => none)

/-- RENEW (05, R90). -/
def execRenew (s : State) : Result :=
  .next (s.hear.busItem fun r => match r.message with
    | .renew h added => some (State.renewLease r h added)
    | _ => none)

/-- RELEASE (05, R94). -/
def execRelease (s : State) : Result :=
  .next (s.hear.busItem fun r => match r.message with
    | .release h => some (State.releaseLease r h)
    | _ => none)

/-- QUERY (03, R70). -/
def execQuery (s : State) : Result :=
  .next (s.hear.busItem fun r => match r.message with
    | .query h => some (State.queryLease r h)
    | _ => none)

/-- LEAVE (03, R72): the holder removal, with no answer. -/
def execLeave (s : State) : Result :=
  .next (s.hear.busItem fun r => match r.message with
    | .leave => some (State.holderRemoval r.sender .holderGone .absent)
    | _ => none)

end Sys2Proof.Machine
end

