-- ==== Sys2Proof/Machine/Commands.lean ====
section
/-!
DEFINITION. The management commands (11): each is the engine item of the command latched in the command unit (10, R192;
11, R197).
-/
namespace Sys2Proof.Machine

/-- What a command answers: the records as it leaves them, its result code and value (10, R193). -/
structure CommandReply where
  state : State
  code : ResultCode
  value : BitVec 16

namespace State

/-- A command that changed nothing, with the code that says why (10, R193). -/
def turnedAway (c : ResultCode) (s : State) : CommandReply := ⟨s, c, 0⟩

/-- OK with value zero. -/
def ok (s : State) : CommandReply := ⟨s, .ok, 0⟩

/-- OK with the new lease's handle in bits 23-16 of RESULT (10, R193). -/
def okHandle (h : Handle) (s : State) : CommandReply := ⟨s, .ok, h.wire.setWidth 16⟩

/-- The command becomes EXECUTING, and Management is recorded as last-served (03, R51; 10, R192). -/
def takeCommand (s : State) : State := (s.setCmd { s.cmd with state := .executing }).serve .management

/-- The command reaches DONE: RESULT is written and CMD_DONE set (10, R192, R193). -/
def finish (r : CommandReply) : State :=
  (r.state.setCmd { r.state.cmd with state := .done, result := ⟨r.state.cmd.code, r.code, r.value⟩ }).raise .cmdDone

/-- A command item: the arbiter hands over the latched command, if its code satisfies `mine`; `act` reads the latched
arguments (11, R197). -/
def commandItem (mine : Byte → Bool) (act : Word → Word → State → CommandReply) (s : State) : State :=
  if s.nextWork = some .command ∧ mine s.cmd.code then finish (act s.cmd.arg0 s.cmd.arg1 s.takeCommand) else s

/-- The item of one command of the table (11, section 11.1). -/
def commandRow (c : CommandCode) (act : Word → Word → State → CommandReply) (s : State) : Result :=
  .next (s.hear.commandItem (fun b => decide (b = c.code)) act)

/-! ### Pins (11, section 11.2) -/

/-- A pin created (01, R15; 11, R198): ACTIVE, holder 0, OPEN, owner of its run at once. -/
def createPin (i : LeaseIdx) (start : Pos) (c : LenClass) (s : State) : State :=
  let l : Lease := ⟨.active, none, .pin, start, c, 3, Config.openTerm, some s.counter, none, none, false, false, 0,
    none, false⟩
  (s.setLeases (s.leases.set i ⟨(s.leases.get i).generation, none, some l⟩)).mapSlots
    fun p x => if inRun start c p then { x with owner := some i, ownerUntil := none } else x

/-- PIN (11, R198). -/
def pinRun (a : Word) (s : State) : CommandReply :=
  match classOf (a.extractLsb' 8 3) with
  | none => s.turnedAway .badArgument
  | some c =>
    let start := posOf (a.extractLsb' 0 6)
    if !aligned c start.val then s.turnedAway .badArgument
    else if !s.runFree c start then s.turnedAway .occupied
    else match s.freeEntry with
      | none => s.turnedAway .noEntry
      | some i => (s.createPin i start c).okHandle (s.handleOf i)

/-- UNPIN (11, R199). -/
def unpinRun (a : Word) (s : State) : CommandReply :=
  match s.resolve (argHandle a) with
  | none => s.turnedAway .badHandle
  | some l =>
    if l.origin ≠ .pin then s.turnedAway .wrongState else (s.retire (argHandle a).index .hostRevoke).ok

/-! ### Granting and revoking (11, section 11.3) -/

/-- The start of GRANT_TO is acceptable as an argument: 0, or an aligned start of the class (11, R200). -/
def startNamed (c : LenClass) (b : BitVec 6) : Bool := decide (b = 0) || aligned c (posOf b).val

/-- The run of GRANT_TO (11, R200 step 5): the one named, or the lowest. -/
def grantToRun (c : LenClass) (b : BitVec 6) (s : State) : Option Pos :=
  if b = 0 then s.placement c 0 else if s.runFree c (posOf b) then some (posOf b) else none

/-- The grant of GRANT_TO (11, R201): a lease of origin GRANTED, with a GRANT that is no reply copy. -/
def grantHost (i : LeaseIdx) (t : Trib) (start : Pos) (c : LenClass) (priority : BitVec 2) (term : BitVec 16)
    (s : State) : State :=
  let n := s.grantNotice i t start c term false
  (s.createLease i t .granted start c priority term false).announce i n

/-- GRANT_TO (11, R200). -/
def grantToRow (a b : Word) (s : State) : CommandReply :=
  let term := b.extractLsb' 0 16
  match argAddress a, classOf (a.extractLsb' 16 3) with
  | some t, some c =>
    if term = 0 ∨ startNamed c (a.extractLsb' 8 6) = false then s.turnedAway .badArgument
    else if (s.entry t).state ≠ .present then s.turnedAway .notPresent
    else if !s.withinQuota t c then s.turnedAway .quota
    else match s.freeEntry with
      | none => s.turnedAway .noEntry
      | some i =>
        match s.grantToRun c (a.extractLsb' 8 6) with
        | none => s.turnedAway .noSpace
        | some start => (s.grantHost i t start c (a.extractLsb' 20 2) term).okHandle (s.handleOf i)
  | _, _ => s.turnedAway .badArgument

/-- REVOKE (05, R97; 11, R202). -/
def revokeLease (a : Word) (s : State) : CommandReply :=
  let h := argHandle a
  match s.resolve h with
  | none => s.turnedAway .badHandle
  | some l =>
    if l.origin = .pin then s.turnedAway .wrongState
    else match l.state with
      | .ending => s.turnedAway .wrongState
      | .announcing => (s.retire h.index .hostRevoke).ok
      | .pending => (s.endWithRevoked h.index l .hostRevoke).ok
      | .active => (s.endWithRevoked h.index l .hostRevoke).ok

/-! ### Roster commands (11, section 11.4) -/

/-- SET_QUOTA (11, R203). -/
def setQuotas (a : Word) (s : State) : CommandReply :=
  let slots := (a.extractLsb' 8 6).toNat
  let leases := (a.extractLsb' 16 4).toNat
  match argAddress a with
  | none => s.turnedAway .badArgument
  | some t =>
    if 54 < slots ∨ leases = 0 ∨ 8 < leases then s.turnedAway .badArgument
    else if slots < (s.entry t).slotsHeld ∨ leases < (s.entry t).leasesHeld then s.turnedAway .overQuota
    else (s.setEntry t { s.entry t with slotQuota := slots, leaseQuota := leases }).ok

/-- BAR (11, R204). -/
def barAddress (a : Word) (s : State) : CommandReply :=
  match argAddress a with
  | none => s.turnedAway .badArgument
  | some t => if (s.entry t).state = .barred then s.ok else (s.holderRemoval t .barred .barred).ok

/-- UNBAR (11, R205). -/
def unbarAddress (a : Word) (s : State) : CommandReply :=
  match argAddress a with
  | none => s.turnedAway .badArgument
  | some t =>
    if (s.entry t).state = .barred then (s.setEntry t { s.entry t with state := .absent }).ok
    else s.turnedAway .wrongState

/-- EVICT (11, R206). -/
def evictAddress (a : Word) (s : State) : CommandReply :=
  match argAddress a with
  | none => s.turnedAway .badArgument
  | some t =>
    match (s.entry t).state with
    | .absent => s.turnedAway .wrongState
    | .barred => s.turnedAway .wrongState
    | .present => (s.holderRemoval t .holderGone .absent).ok
    | .silent => (s.holderRemoval t .holderGone .absent).ok
    | .leaving => (s.holderRemoval t .holderGone .absent).ok

/-! ### Slot map and worker commands (11, section 11.5) -/

/-- CLEAR_Q (11, R207; 02, R46). -/
def clearQuarantine (a : Word) (s : State) : CommandReply :=
  let first := (a.extractLsb' 0 6).toNat
  let last := (a.extractLsb' 8 6).toNat
  if last < first ∨ first < Config.firstLeasable then s.turnedAway .badArgument
  else ((s.mapSlots fun p x => if first ≤ p ∧ p ≤ last then { x with quarantine := false } else x).noteSpaceFreed
    s.slots).ok

/-- COMPACT (05, R109). -/
def startWorker (s : State) : CommandReply :=
  match s.worker.status with
  | .off => ((s.setWorker ⟨.active .step, 10, none, 0⟩).setStepReady true).ok
  | .active _ => s.turnedAway .wrongState

/-- COMPACT_ABORT (05, R113). -/
def abortWorker (s : State) : CommandReply :=
  match s.worker.status with
  | .off => s.turnedAway .wrongState
  | .active _ => s.endWorker.ok

/-- FLUSH_DEFERRED (04, R87): the value is the number of entries marked. -/
def flushList (s : State) : CommandReply :=
  ⟨s.setDeferred (s.deferred.map fun d => { d with waitUntil := s.counter }), .ok, BitVec.ofNat 16 s.deferred.length⟩

/-! ### RESTART (11, section 11.6) -/

/-- A lease that RESTART keeps (01, R24). -/
def isPin (i : LeaseIdx) (s : State) : Bool :=
  match s.leaseAt i with
  | some l => decide (l.origin = .pin)
  | none => false

/-- A position record after RESTART (02, R48); `pinned` tells whether its owner is a pin. -/
def restartSlot (pinned : Bool) (x : Slot) : Slot :=
  match x.owner with
  | some i =>
    if pinned then { x with owner := some i, ownerUntil := none, incoming := none }
    else { x with owner := none, ownerUntil := none, incoming := none, guardUntil := some 1 }
  | none => { x with ownerUntil := none, incoming := none, guardUntil := x.guardUntil.map fun _ => 1 }

/-- The owner of a record is a pin. -/
def ownedByPin (s : State) (x : Slot) : Bool :=
  match x.owner with
  | some i => s.isPin i
  | none => false

/-- An entry of the lease table after RESTART (01, R24). -/
def restartLease (e : LeaseEntry) : LeaseEntry :=
  match e.lease with
  | some l =>
    if l.origin = .pin then { e with lease := some { l with startFrame := some 0 } }
    else ⟨e.generation + 1, some .restart, none⟩
  | none => e

/-- A roster entry after RESTART (07, R151). -/
def restartEntry (e : RosterEntry) : RosterEntry :=
  if e.state = .barred then { e with slotsHeld := 0, leasesHeld := 0 }
  else ⟨.absent, none, 0, none, none, e.slotQuota, e.leaseQuota, 0, 0⟩

/-- The records of the frame generator, slot map, lease table and roster after RESTART (11, R209). -/
def restartRecords (s : State) : State :=
  ((((s.setFg ⟨.stopped, 0, .between, false, none, none⟩).mapSlots fun _ x => restartSlot (s.ownedByPin x) x).setLeases
    (s.leases.mapFrom (fun _ => restartLease) 0)).setRoster (s.roster.mapFrom (fun _ => restartEntry) 0)).setTurnPointer 0

/-- The queues, internal work, uplink receiver and claim monitor after RESTART (11, R209). -/
def restartQueues (s : State) : State :=
  ((((((s.setRequests []).setDeferred []).setNotices []).setEngine ⟨.internal, Table.replicate 30 false, false,
    false⟩).setUplink ⟨none, none, none⟩).setCredited (Table.replicate 32 false)).setDue Due.nothing

/-- The compaction worker after RESTART: OFF, and COMPACT_END raised if it was ACTIVE (05, R108). -/
def restartWorker (s : State) : State :=
  (s.setWorker { s.worker with status := .off, underMove := none }).raiseIf (decide (s.worker.status ≠ .off)) .compactEnd

/-- RESTART (11, R209). -/
def restartBus (s : State) : CommandReply := s.restartRecords.restartQueues.restartWorker.ok

end State

/-- PIN (11, R198). -/
def execPin (s : State) : Result := s.commandRow .pin fun a _ s => s.pinRun a

/-- UNPIN (11, R199). -/
def execUnpin (s : State) : Result := s.commandRow .unpin fun a _ s => s.unpinRun a

/-- GRANT_TO (11, R200, R201). -/
def execGrantTo (s : State) : Result := s.commandRow .grantTo fun a b s => s.grantToRow a b

/-- REVOKE (05, R97). -/
def execRevoke (s : State) : Result := s.commandRow .revoke fun a _ s => s.revokeLease a

/-- SET_QUOTA (11, R203). -/
def execSetQuota (s : State) : Result := s.commandRow .setQuota fun a _ s => s.setQuotas a

/-- BAR (11, R204). -/
def execBar (s : State) : Result := s.commandRow .bar fun a _ s => s.barAddress a

/-- UNBAR (11, R205). -/
def execUnbar (s : State) : Result := s.commandRow .unbar fun a _ s => s.unbarAddress a

/-- EVICT (11, R206). -/
def execEvict (s : State) : Result := s.commandRow .evict fun a _ s => s.evictAddress a

/-- CLEAR_Q (11, R207). -/
def execClearQ (s : State) : Result := s.commandRow .clearQ fun a _ s => s.clearQuarantine a

/-- COMPACT (05, R109). -/
def execCompact (s : State) : Result := s.commandRow .compact fun _ _ s => s.startWorker

/-- COMPACT_ABORT (05, R113). -/
def execCompactAbort (s : State) : Result := s.commandRow .compactAbort fun _ _ s => s.abortWorker

/-- FLUSH_DEFERRED (04, R87). -/
def execFlushDeferred (s : State) : Result := s.commandRow .flushDeferred fun _ _ s => s.flushList

/-- RESTART (11, R209). -/
def execRestart (s : State) : Result := s.commandRow .restart fun _ _ s => s.restartBus

/-- A latched code that names no command (10, R192): nothing changes, BAD_ARGUMENT. -/
def execUnknownCommand (s : State) : Result :=
  .next (s.hear.commandItem (fun b => !commandCodes.contains b) fun _ _ s => s.turnedAway .badArgument)

end Sys2Proof.Machine
end

