-- ==== Sys2Proof/Machine/FrameRows.lean ====
section
/-!
DEFINITION. The rows of the frame start's reactions (06, R126). Each takes its reaction when it is due, once for each
frame start; at any other time the part gives no such event and nothing changes (notes/assumptions/1.md).
-/
namespace Sys2Proof.Machine

/-- OWNER_UNTIL_VACATE (02, R30; 01, R20). -/
def execOwnerUntilVacate (s : State) : Result := .next s.takeVacate

/-- GUARD_END (02, R31). -/
def execGuardEnd (s : State) : Result := .next s.takeGuardEnd

/-- INCOMING_GO_LIVE (02, R32; 01, R17; 05, R111). -/
def execIncomingGoLive (s : State) : Result := .next s.takeGoLive

/-- UNTIL_WRITE_IN_RANGE (01, R10). -/
def execUntilWriteInRange (s : State) : Result := .next s.takeUntils

/-- MOVE_TERM_END_REMOVAL (05, R105). -/
def execMoveTermEndRemoval (s : State) : Result := .next s.takeMoveEnds

/-- WAIT_EXPIRY (04, R85). -/
def execWaitExpiry (s : State) : Result := .next s.takeWaits

end Sys2Proof.Machine
end

