-- ==== Sys2Proof/Machine/Sending.lean ====
section
/-!
DEFINITION. The notice unit's sending at a frame start (08, R166, R168), and what its sending reports complete: the
lease engine's and the slot map unit's records (01, R16, R19; 05, R103; 02, R36) and the reply copies (07, R148; 08, R167).
-/
namespace Sys2Proof.Machine

namespace QueuedNotice

/-- The copy's effect frame has come in frame `now`: by the mark or by the test (07, R148; 08, R168). -/
def effectCome (now e : Frame) (q : QueuedNotice) : Bool := q.come || Machine.come now e

/-- A copy-marked GRANT whose remaining term is 0 or less: it is removed unsent (08, R168). -/
def expiredCopy (now : Frame) (q : QueuedNotice) : Bool :=
  match q.copy, q.notice.grantTerm, q.effect with
  | true, some t, some e =>
    q.effectCome now e && decide (t ≠ Config.openTerm) && decide (t.toNat ≤ (now - e).toNat)
  | _, _, _ => false

/-- A copy-marked GRANT or RELEASED with its offset and term filled from its recorded effect frame (08, R168). -/
def fillCopy (now : Frame) (q : QueuedNotice) : Notice :=
  match q.effect with
  | none => q.notice.withOffset 0
  | some e =>
    if q.effectCome now e then
      match q.notice.grantTerm with
      | some t => (q.notice.withOffset 0).withTerm (if t = Config.openTerm then t else t - (now - e))
      | none => q.notice.withOffset 0
    else q.notice.withOffset ((e - now).setWidth 3)

/-- The fields filled at sending (08, R166). -/
def fill (now : Frame) (d : BitVec 4) (q : QueuedNotice) : Notice :=
  if q.link.isSome then q.notice.withOffset (d.setWidth 3)
  else if q.copy ∧ q.notice.isGrantOrReleased then q.fillCopy now
  else q.notice

end QueuedNotice

/-- The notice to send and the queue it leaves: expired GRANT copies are dropped from the head (08, R168). -/
def nextToSend (now : Frame) : List QueuedNotice → Option QueuedNotice × List QueuedNotice
  | [] => (none, [])
  | q :: rest => if q.expiredCopy now then nextToSend now rest else (some q, rest)

namespace State

/-- A GRANT sent (01, R16): the start frame, the from-frames, and ANNOUNCING to PENDING. -/
def grantSent (i : LeaseIdx) (effect : Frame) (s : State) : State :=
  match s.leaseAt i with
  | none => s
  | some l =>
    (s.setLease i { l with
      startFrame := some effect, state := if l.state = .announcing then .pending else l.state }).mapSlots
        fun _ => Slot.writeFrom i effect

end State

/-- The end frame that a sent end notice fixes (01, R19): its effect frame when that is earlier than the end frame held
or none is held; an equal one is announced too. -/
def Lease.fixEnd (sent : Frame) (d : BitVec 4) (l : Lease) : Lease :=
  let effect := sent + d.setWidth 16
  match l.startFrame, l.endFrame with
  | some st, some e =>
    if effectOffset st sent d < offsetFrom st e then { l with endFrame := some effect, endAnnounced := true }
    else if effectOffset st sent d = offsetFrom st e then { l with endAnnounced := true }
    else { l with endAnnounced := false }
  | _, none => { l with endFrame := some effect, endAnnounced := true }
  | none, some _ => l

/-- The lease's end frame lies later than the effect frame of a MOVE sent now, or there is none (05, R103). -/
def Lease.outlasts (sent : Frame) (d : BitVec 4) (l : Lease) : Bool :=
  match l.startFrame, l.endFrame with
  | some st, some e => decide (effectOffset st sent d < offsetFrom st e)
  | _, none => true
  | none, some _ => false

namespace Slot

/-- A MOVE sent that goes ahead: from-frame and until on the target, owner-until on the old run (05, R103). -/
def writeMove (i : LeaseIdx) (effect : Frame) (u : Option Frame) (x : Slot) : Slot :=
  let x := if x.ownedBy i then { x with ownerUntil := some effect } else x
  match x.incoming with
  | some e => if e.lease = i then { x with incoming := some ⟨i, some effect, u⟩ } else x
  | none => x

end Slot

namespace State

/-- A linked RELEASED or REVOKED sent (01, R19): the end frame fixed and written. -/
def endSent (i : LeaseIdx) (s : State) : State :=
  match s.leaseAt i with
  | none => s
  | some l => (s.setLease i (l.fixEnd s.counter s.settings.d)).writeUntils i

/-- A MOVE sent (05, R103): the move is SENT, and its target takes the effect frame or is given up. A target given up after
the old run was vacated at the same frame start leaves the lease no position: that is its full vacate (01, R20; 02, section
2.3; notes/assumptions/9.md). -/
def moveSent (i : LeaseIdx) (s : State) : State :=
  match s.leaseAt i with
  | none => s
  | some l =>
    match l.move with
    | none => s
    | some m =>
      let effect := s.counter + s.settings.d.setWidth 16
      let t := s.setLease i { l with move := some { m with effect := some effect } }
      if l.outlasts s.counter s.settings.d then
        t.mapSlots fun _ => Slot.writeMove i effect (l.untilWord s.counter)
      else (t.removeIncoming i).reportVacated i

/-- The report of an effect-bearing sending (08, R167). -/
def reportSending (q : QueuedNotice) (s : State) : State :=
  match q.link with
  | none => s
  | some i =>
    match q.notice.body with
    | .grant _ _ _ _ => s.grantSent i (s.counter + s.settings.d.setWidth 16)
    | .move _ _ => s.moveSent i
    | .released _ _ => s.endSent i
    | .revoked _ _ => s.endSent i
    | _ => s

/-- The effect frame recorded in the copies still queued of an answer just sent (08, R167). -/
def recordQueued (n : Notice) (e : Frame) (q : QueuedNotice) : QueuedNotice :=
  if q.copy ∧ q.notice.address = n.address ∧ q.notice.body.kind = n.body.kind ∧ q.notice.handle = n.handle
      ∧ q.effect = none then
    { q with effect := some e }
  else q

/-- The effect frame recorded with the reply copy made from the notice, if it is still held (08, R167;
notes/assumptions/11.md). -/
def recordHeld (n : Notice) (e : Frame) (s : State) : State :=
  match (s.entry n.address).reply with
  | none => s
  | some c =>
    if c.notice = n ∧ c.effect = none then
      s.setEntry n.address { s.entry n.address with reply := some { c with effect := some e } }
    else s

/-- The report to the roster unit of an answer-marked GRANT or RELEASED sending (08, R167). -/
def reportAnswer (q : QueuedNotice) (s : State) : State :=
  if q.answer ∧ q.notice.isGrantOrReleased then
    let e := if q.link.isSome then s.counter + s.settings.d.setWidth 16 else s.counter
    (s.setNotices (s.notices.map (recordQueued q.notice e))).recordHeld q.notice e
  else s

/-- The notice that the notice unit sends at this frame start, as it is sent (08, R166). -/
def sentNotice (s : State) : Option Notice :=
  ((nextToSend s.counter s.notices).1).map fun q => q.fill s.counter s.settings.d

/-- The sending at a frame start: the notice leaves the queue and its reports are taken (08, R166, R167). -/
def sendNotice (s : State) : State :=
  match nextToSend s.counter s.notices with
  | (none, rest) => s.setNotices rest
  | (some q, rest) => ((s.setNotices rest).reportSending q).reportAnswer q

/-- The word of positions 2-5: the notice, or the idle downlink of zeros (06, R115; 08, R166). -/
def downlinkWord : Option Notice → BitVec 64
  | none => 0
  | some n => n.word

end State

/-- A recorded effect frame that has come is marked as come at the frame start (07, R148). -/
def RosterEntry.markCome (now : Frame) (e : RosterEntry) : RosterEntry :=
  match e.reply with
  | none => e
  | some c =>
    match c.effect with
    | none => e
    | some f => if come now f then { e with reply := some { c with come := true } } else e

namespace State

/-- The roster unit marks the effect frames that have come (07, R148; notes/assumptions/12.md). -/
def markCopies (s : State) : State := s.setRoster (s.roster.mapFrom (fun _ => RosterEntry.markCome s.counter) 0)

end State

end Sys2Proof.Machine
end

