-- ==== Sys2Proof/Machine/Generator.lean ====
section
/-!
DEFINITION. Power-on reset and the frame generator: POWER_ON_RESET (R125), frame requests (06, R119-R123), HALT_COMPLETE
(R121), the parts of a frame start that come before the sending (R117, R126, R135), and the bus lines (06, R114-R116).
-/
namespace Sys2Proof.Machine

/-- POWER_ON_RESET (06, R125): every record takes its power-on value, and the straps are sampled (10, R183). The
commands that wait outside are kept. -/
def execPowerOnReset (straps : BitVec 2) (s : State) : Result :=
  .next ((State.reset.setPort { State.reset.port with straps := straps }).setPending s.pending)

namespace State

/-! ### Frame requests (06, R119) -/

/-- A start request (06, R120): a STOPPED generator becomes RUNNING and begins frame 0. -/
def requestStart (s : State) : State :=
  match s.fg.state with
  | .stopped => s.setFg { s.fg with state := .running, phase := .zeroBegun }
  | .running => s.raise .ctrlIgnored
  | .halting => s.raise .ctrlIgnored
  | .halted => s.raise .ctrlIgnored

/-- The generator becomes HALTED: HALTED is raised and SDATA is released (06, R116, R121). -/
def becomeHalted (s : State) : State :=
  (s.setFg { s.fg with state := .halted, marker := none, downlink := none }).raise .halted

/-- A halt request (06, R121): HALTING, or HALTED at once between a frame close and the next frame start. Between a
start request and frame start 0 the frame to complete is frame 0 (notes/assumptions/6.md). -/
def requestHalt (s : State) : State :=
  match s.fg.state with
  | .running =>
    match s.fg.phase with
    | .between => s.becomeHalted
    | .zeroBegun => s.setFg { s.fg with state := .halting }
    | .inFrame => s.setFg { s.fg with state := .halting }
  | .stopped => s.raise .ctrlIgnored
  | .halting => s.raise .ctrlIgnored
  | .halted => s.raise .ctrlIgnored

/-- A resume request (06, R122, R123): HALTED goes to RUNNING with RESUMED in the next marker; in HALTING the halt is
cancelled, also after the frame close of the frame that completes, while its completion is still to come
(notes/assumptions/28.md). -/
def requestResume (s : State) : State :=
  match s.fg.state with
  | .halted => s.setFg { s.fg with state := .running, resumed := true }
  | .halting => s.setFg { s.fg with state := .running }
  | .stopped => s.raise .ctrlIgnored
  | .running => s.raise .ctrlIgnored

/-- The frame request field of a CONTROL write (06, R119); 0 makes no request. -/
def frameRequest (r : BitVec 2) (s : State) : State :=
  if r = 1 then s.requestStart
  else if r = 2 then s.requestHalt
  else if r = 3 then s.requestResume
  else s

/-! ### Turns (07, R135) -/

/-- The addresses after the pointer in ascending order, wrapping from 30 to 1. -/
def turnOrder (pointer : Nat) : List Trib :=
  allTribs.filter (fun t => decide (pointer < t.val + 1)) ++ allTribs.filter (fun t => decide (t.val + 1 ≤ pointer))

/-- The turn of the frame (07, R135): OPEN every K-th frame or when nobody may speak, else the next speaker. -/
def chosenTurn (s : State) : Turn :=
  if s.counter.toNat % s.settings.k.toNat = 0 then .anyone
  else match (turnOrder s.turnPointer).find? fun t => s.speaks t with
    | some t => .owner t
    | none => .anyone

/-- The turn pointer after the choice (07, R135). -/
def advancePointer (t : Turn) (s : State) : State :=
  match t with
  | .anyone => s
  | .owner a => s.setTurnPointer (a.val + 1)

/-! ### The frame start (06, R126) -/

/-- The generator gives a frame start: a frame begins where one is to follow (06, R120-R122, R126). -/
def frameStartFollows (s : State) : Bool :=
  match s.fg.state, s.fg.phase with
  | .running, .between => true
  | .running, .zeroBegun => true
  | .halting, .zeroBegun => true
  | _, _ => false

/-- The counter as the frame start sets it (06, R117): the first frame after a start request is frame 0. -/
def nextCounter (s : State) : Frame := if s.fg.phase = .zeroBegun then s.counter else s.counter + 1

/-- The frame begins: the counter is set and every block's reaction to the frame start is due. -/
def openFrame (s : State) : State :=
  (s.setFg { s.fg with counter := s.nextCounter, phase := .inFrame }).setDue
    { s.due with vacate := true, guardEnd := true, goLive := true, untils := true, moveEnds := true, waits := true }

end State

/-- HALT_COMPLETE (06, R121): after the frame close of the frame completing in HALTING. -/
def execHaltComplete (s : State) : Result :=
  .next (let t := s.settle
    if t.fg.state = .halting ∧ t.fg.phase = .between then t.becomeHalted else t)

/-! ### The bus lines (06, R114-R116) -/

namespace State

/-- The position that a bit clock of the frame lies in (06, R114). -/
def positionOf (bitClock : Nat) : Nat := bitClock / 16

/-- The bit clock at which CLAIM is sampled in a position (09, R172). -/
def sampleClock (p : Pos) : Nat := 16 * p.val + 8

/-- BCLK runs in every generator state while RST_N is high, and is held low while it is low (06, R114). -/
def bclkRuns (rstHigh : Bool) : Bool := rstHigh

/-- FSYNC: high for bit clock 0 of a frame in progress, low at all other times (06, R114-R116). -/
def fsync (bitClock : Nat) (s : State) : Bool := decide (s.fg.phase = .inFrame) && decide (bitClock = 0)

/-- SDATA as the part drives it: the marker in positions 0-1, the downlink in 2-5, released elsewhere and while no
frame is in progress (06, R115, R116). -/
def sdata (bitClock : Nat) (s : State) : Option Bool :=
  if s.fg.phase = .inFrame then
    if bitClock < 32 then s.fg.marker.map fun m => m.getMsbD bitClock
    else if bitClock < 96 then s.fg.downlink.map fun m => m.getMsbD (bitClock - 32)
    else none
  else none

end State

end Sys2Proof.Machine
end

