-- ==== Sys2Proof/Machine/Internal.lean ====
section
/-!
DEFINITION. The engine items of the Internal requester (03, R53): HOLDER_RETIREMENT (07, R138), COMPACTION_STEP (05,
R110, R102) and RECONSIDERATION_PASS (04, R82, R83).
-/
namespace Sys2Proof.Machine

namespace State

/-! ### The compaction step (05, R110) -/

/-- A candidate of the worker: an ACTIVE lease of origin BUS or GRANTED that holds no move. -/
def movable (l : Lease) : Bool := decide (l.state = .active) && decide (l.origin ≠ .pin) && l.move.isNone

/-- The candidates whose run starts at `p`. -/
def movableAt (s : State) (p : Pos) : List (LeaseIdx × Lease) :=
  allLeases.filterMap fun i => match s.leaseAt i with
    | some l => if movable l ∧ l.start = p then some (i, l) else none
    | none => none

/-- The candidates in the step's order: from the scan point upwards, then those below it (05, R110). -/
def moveOrder (s : State) : List (LeaseIdx × Lease) :=
  (allPositions.filter fun p => decide (s.worker.scan ≤ p.val)).flatMap s.movableAt ++
    (allPositions.filter fun p => decide (p.val < s.worker.scan)).flatMap s.movableAt

/-- The first candidate whose move search gives a target. -/
def nextMove (s : State) : Option (LeaseIdx × Lease × Pos) :=
  s.moveOrder.findSome? fun x => (s.moveSearch x.2.cls x.2.start).map fun target => (x.1, x.2, target)

/-- The MOVE notice (05, R102). -/
def moveNotice (l : Lease) (h : Handle) (target : Pos) (t : Trib) : Notice := ⟨t, some h, l.seqEcho, .move target 0⟩

/-- A move decided (05, R102): the UNSENT sub-record, the target's incoming entries and the linked MOVE. -/
def decideMove (i : LeaseIdx) (l : Lease) (target : Pos) (s : State) : State :=
  let t := (s.setLease i { l with move := some ⟨target, none⟩ }).writeIncoming i target l.cls
  match l.holder with
  | none => t
  | some a => t.announce i (moveNotice l (s.handleOf i) target a)

/-- One compaction step (05, R110): one move decided and the worker in WAIT, or the worker's end (R113). -/
def compactOnce (s : State) : State :=
  match s.nextMove with
  | some (i, l, target) =>
    ((s.decideMove i l target).setWorker { s.worker with status := .active .wait, underMove := some (s.handleOf i)
      }).setStepReady false
  | none => s.endWorker

/-! ### The reconsideration pass (04, R82, R83) -/

/-- A deferred entry fits: its sender speaks, it is within quota, an entry and a run are free, and its wait-until has
not come. The lease entry and the start are those it is granted. -/
def fits (s : State) (d : Deferred) : Option (LeaseIdx × Pos) :=
  if s.speaks d.sender ∧ s.withinQuota d.sender d.cls ∧ come s.counter d.waitUntil = false then
    match s.freeEntry, s.placement d.cls (d.preferred.getD 0) with
    | some i, some start => some (i, start)
    | _, _ => none
  else none

/-- The first entry from the head that fits, with its place in the list. -/
def firstFit (s : State) : Nat → List Deferred → Option (Nat × Deferred × LeaseIdx × Pos)
  | _, [] => none
  | k, d :: rest =>
    match s.fits d with
    | some (i, start) => some (k, d, i, start)
    | none => firstFit s (k + 1) rest

/-- One pass (04, R82, R83): the first fitting entry is granted, with a GRANT that is no reply copy (R79); with none,
the deferred-reconsider flag is cleared (R81). -/
def reconsiderOnce (s : State) : State :=
  match s.firstFit 0 s.deferred with
  | some (k, d, i, start) =>
    let n := s.grantNotice i d.sender start d.cls d.term d.seq
    ((s.setDeferred (s.deferred.eraseIdx k)).createLease i d.sender .bus start d.cls d.priority d.term d.seq).announce i n
  | none => s.setEngine { s.engine with reconsider := false }

end State

/-- HOLDER_RETIREMENT (07, R138): the holder removal of the lowest flagged address. -/
def execHolderRetirement (s : State) : Result :=
  .next (let t := s.hear
    match t.nextWork with
    | some (.retirement a) => (t.serve .internal).holderRemoval a .holderGone .absent
    | _ => t)

/-- COMPACTION_STEP (05, R110). -/
def execCompactionStep (s : State) : Result :=
  .next (let t := s.hear
    match t.nextWork with
    | some .compaction => (t.serve .internal).compactOnce
    | _ => t)

/-- RECONSIDERATION_PASS (04, R82). -/
def execReconsiderationPass (s : State) : Result :=
  .next (let t := s.hear
    match t.nextWork with
    | some .reconsider => (t.serve .internal).reconsiderOnce
    | _ => t)

end Sys2Proof.Machine
end

