-- ==== Sys2Proof/Machine/FrameStart.lean ====
section
/-!
DEFINITION. FRAME_START (06, R126, R128): the sending, the reactions and engine items before and after it (03, R50, R57), and the
marker.
-/
namespace Sys2Proof.Machine

/-! ### The row of the engine's next item -/

/-- The command that a management row stands for. -/
def rowOfCommand : CommandCode → Instr
  | .pin => .pin
  | .unpin => .unpin
  | .grantTo => .grantTo
  | .revoke => .revoke
  | .setQuota => .setQuota
  | .bar => .bar
  | .unbar => .unbar
  | .evict => .evict
  | .clearQ => .clearQ
  | .compact => .compact
  | .compactAbort => .compactAbort
  | .flushDeferred => .flushDeferred
  | .restart => .restart

/-- The row of a message at the head of the request queue (03, R58). -/
def rowOfMessage : Message → Instr
  | .request _ => .request
  | .withdraw => .withdraw
  | .renew _ _ => .renew
  | .release _ => .release
  | .query _ => .query
  | .leave => .leave

/-- The row of a latched code (11, section 11.1; 10, R192). -/
def rowOfCode (b : Byte) : Instr :=
  match [CommandCode.pin, .unpin, .grantTo, .revoke, .setQuota, .bar, .unbar, .evict, .clearQ, .compact, .compactAbort,
    .flushDeferred, .restart].find? fun c => decide (c.code = b) with
  | some c => rowOfCommand c
  | none => .unknownCommand

/-- The row of the work that the arbiter hands out (03, R51, R53). -/
def State.rowOfWork (s : State) : Work → Instr
  | .bus r => rowOfMessage r.message
  | .command => rowOfCode s.cmd.code
  | .retirement _ => .holderRetirement
  | .compaction => .compactionStep
  | .reconsider => .reconsiderationPass

/-- The engine item of a row (03, R50). -/
def itemRow : Instr → State → Result
  | .request => execRequest
  | .withdraw => execWithdraw
  | .renew => execRenew
  | .release => execRelease
  | .query => execQuery
  | .leave => execLeave
  | .holderRetirement => execHolderRetirement
  | .compactionStep => execCompactionStep
  | .reconsiderationPass => execReconsiderationPass
  | .pin => execPin
  | .unpin => execUnpin
  | .grantTo => execGrantTo
  | .revoke => execRevoke
  | .setQuota => execSetQuota
  | .bar => execBar
  | .unbar => execUnbar
  | .evict => execEvict
  | .clearQ => execClearQ
  | .compact => execCompact
  | .compactAbort => execCompactAbort
  | .flushDeferred => execFlushDeferred
  | .restart => execRestart
  | .unknownCommand => execUnknownCommand
  | _ => .next

/-! ### The frame start (06, R126) -/

namespace State

/-- The engine takes the item that the arbiter hands out, if any, after what comes before an item (03, R50, R51, R54). -/
def takeItem (s : State) : State :=
  let t := s.hear
  match t.nextWork with
  | none => t
  | some w => match itemRow (t.rowOfWork w) t with
    | .next u => u
    | _ => t

/-- One step of a frame start: another block's reaction, or an engine item. -/
def takeStep (s : State) : FrameStep → State
  | .react r => s.takeReaction r
  | .item => s.takeItem

/-- The steps, one after the other. -/
def takeSteps (l : List FrameStep) (s : State) : State := l.foldl takeStep s

/-- UPLINK_OPEN: the request queue has a free entry (03, R57). -/
def uplinkOpenNow (s : State) : Bool := decide (s.requests.length < Config.requestCapacity)

/-- The marker and downlink words of the frame; the RESUMED note is cleared (06, R122, R128), the turn pointer follows the turn
(07, R135), and the uplink receiver copies the turn and UPLINK_OPEN and clears the received bits (08, R160). -/
def buildMarker (turn : Turn) (sent : Option Notice) (isOpen : Bool) (s : State) : State :=
  let m := markerWord s.counter turn isOpen s.fg.resumed sent.isSome
  ((s.advancePointer turn).setFg { s.fg with
    resumed := false, marker := some m, downlink := some (downlinkWord sent) }).setUplink ⟨some turn, some isOpen, none⟩

/-- The state after the first `k` steps: those before the sending, from the frame begun `s`, and those after it, from the state
`u` that the sending leaves. -/
def afterSteps (order : FrameOrder) (s u : State) (k : Nat) : State :=
  if k ≤ order.before.length then takeSteps (order.before.take k) s
  else takeSteps (order.after.take (k - order.before.length)) u

/-- The frame start (06, R126): the counter, the steps before the sending, the sending, the steps after it, and the marker. The
turn and the count of the request queue are those after as many steps as the order says (03, R57; 07, R135). The reactions not
listed stay due. Every order of R50 is some `order`; which order comes is the sender's to say (DESIGN CHOICE, safe;
notes/assumptions/30.md). A RESTART among the items cuts the frame off (06, R124): nothing more of it is sent. -/
def frameStart (order : FrameOrder) (s : State) : State :=
  let o := s.openFrame
  let b := takeSteps order.before o
  if b.fg.phase = .inFrame then
    let u := b.sendNotice.markCopies
    let t := takeSteps order.after u
    if t.fg.phase = .inFrame then
      t.buildMarker (afterSteps order o u order.turnAt).chosenTurn b.sentNotice (afterSteps order o u order.readAt).uplinkOpenNow
    else t
  else b

end State

/-- FRAME_START (06, R126). -/
def execFrameStart (order : FrameOrder) (s : State) : Result :=
  .next (let t := s.settle
    if t.frameStartFollows then t.frameStart order else t)

end Sys2Proof.Machine
end

