-- ==== Sys2Proof/Machine/Port.lean ====
section
/-!
DEFINITION. The management port: transactions (10, R183, R184), the register window (10, section 10.2), configuration
(R187, R188, R130), attention (R190), the latch of a command (R192) and the record view (R195, R196).
-/
namespace Sys2Proof.Machine

/-- The seventeen registers of the window (10, section 10.2). -/
inductive Register where
  | ident | control | status | attention | attnEn | frame | timing | limits | arg0 | arg1 | cmd | result | viewSelect
  | view0 | view1 | view2 | view3
deriving DecidableEq, Repr

/-- The register at an offset; no other offset byte is acknowledged (10, R183). -/
def registerAt (o : Byte) : Option Register :=
  match o.toNat with
  | 0x00 => some .ident
  | 0x04 => some .control
  | 0x08 => some .status
  | 0x0C => some .attention
  | 0x10 => some .attnEn
  | 0x14 => some .frame
  | 0x18 => some .timing
  | 0x1C => some .limits
  | 0x20 => some .arg0
  | 0x24 => some .arg1
  | 0x28 => some .cmd
  | 0x2C => some .result
  | 0x30 => some .viewSelect
  | 0x34 => some .view0
  | 0x38 => some .view1
  | 0x3C => some .view2
  | 0x40 => some .view3
  | _ => none

/-- The count byte is 1 to 4 (10, R183). -/
def countNamed (c : Byte) : Bool := decide (1 ≤ c.toNat) && decide (c.toNat ≤ 4)

namespace State

/-! ### What the registers show (10, R184, R186, R189) -/

/-- STATUS. -/
def statusWord (s : State) : Word :=
  BitVec.ofNat 6 s.entriesInUse ++ BitVec.ofNat 5 s.notices.length ++ BitVec.ofNat 4 s.deferred.length ++
    BitVec.ofNat 4 s.requests.length ++ BitVec.ofNat 8 s.worker.moves ++
    BitVec.ofBool (decide (s.worker.status ≠ .off)) ++ s.cmd.state.code ++ s.fg.state.code

/-- TIMING. -/
def timingWord (s : State) : Word :=
  s.settings.u ++ (0 : BitVec 4) ++ s.settings.m ++ (0 : BitVec 2) ++ s.settings.k ++ (0 : BitVec 4) ++ s.settings.d

/-- LIMITS. -/
def limitsWord (s : State) : Word := s.settings.maxTerm ++ s.settings.waitLimit ++ s.settings.idleLimit

/-- CONTROL: the frame request field reads as 0 (10, R187). -/
def controlWord (s : State) : Word := (0 : BitVec 23) ++ BitVec.ofBool s.settings.preemptEn ++ (0 : BitVec 8)

/-- RESULT (10, R193). -/
def resultWord (s : State) : Word := s.cmd.result.value ++ s.cmd.result.code.code ++ s.cmd.result.command

/-- The value of a register at a read. -/
def readRegister (r : Register) (s : State) : Word :=
  match r with
  | .ident => Config.ident
  | .control => s.controlWord
  | .status => s.statusWord
  | .attention => s.attention.setWidth 32
  | .attnEn => s.attnEn.setWidth 32
  | .frame => s.counter.setWidth 32
  | .timing => s.timingWord
  | .limits => s.limitsWord
  | .arg0 => s.port.arg0
  | .arg1 => s.port.arg1
  | .cmd => 0
  | .result => s.resultWord
  | .viewSelect => s.port.viewSelect
  | .view0 => s.port.view0
  | .view1 => s.port.view1
  | .view2 => s.port.view2
  | .view3 => s.port.view3

end State

/-! ### The record view (10, R195, R196) -/

/-- A snapshot: VIEW0 to VIEW3. -/
structure Snapshot where
  view0 : Word
  view1 : Word
  view2 : Word
  view3 : Word
deriving DecidableEq, Repr

/-- The snapshot of a table or an index that names no record. -/
def Snapshot.empty : Snapshot := ⟨0, 0, 0, 0⟩

/-- A frame as it is shown: zero where it is not held. -/
def frameField (f : Option Frame) : Frame := f.getD 0

/-- The presence bit of a field. -/
def presence {α : Type} (o : Option α) : BitVec 1 := BitVec.ofBool o.isSome

/-- A lease index as it is shown: zero where it is not held. -/
def indexField : Option LeaseIdx → BitVec 5
  | none => 0
  | some i => BitVec.ofFin i

/-- Table LEASE. -/
def LeaseEntry.snapshot (e : LeaseEntry) : Snapshot :=
  match e.lease with
  | none => ⟨(1 : BitVec 1) ++ (0 : BitVec 3) ++ endReasonCode e.lastReason ++ e.generation ++ (0 : BitVec 21), 0, 0, 0⟩
  | some l =>
    { view0 := (1 : BitVec 1) ++ (0 : BitVec 1) ++ BitVec.ofBool l.takenUp ++ BitVec.ofBool l.seqEcho ++
        endReasonCode l.endReason ++ e.generation ++ l.priority ++ LenClass.wire l.cls ++ Pos.wire l.start ++
        l.origin.code ++ holderWire l.holder ++ l.state.code
      view1 := (0 : BitVec 4) ++ BitVec.ofBool (State.sentMove l) ++ presence l.move ++ presence l.endFrame ++
        presence l.startFrame ++ BitVec.ofNat 8 l.idle ++ l.term
      view2 := frameField l.endFrame ++ frameField l.startFrame
      view3 := match l.move with
        | none => 0
        | some m => frameField m.effect ++ (0 : BitVec 10) ++ Pos.wire m.target }

/-- Table POSITION, a leasable position. -/
def Slot.snapshot (x : Slot) : Snapshot :=
  { view0 := (1 : BitVec 1) ++ (0 : BitVec 10) ++ presence x.guardUntil ++ presence x.ownerUntil ++
      presence (x.incoming.bind Incoming.untilFrame) ++ presence (x.incoming.bind Incoming.fromFrame) ++
      indexField (x.incoming.map Incoming.lease) ++ presence x.incoming ++ indexField x.owner ++ presence x.owner ++
      BitVec.ofBool x.quarantine ++ x.state.code
    view1 := frameField x.guardUntil ++ frameField x.ownerUntil
    view2 := frameField (x.incoming.bind Incoming.untilFrame) ++ frameField (x.incoming.bind Incoming.fromFrame)
    view3 := 0 }

/-- Table POSITION, an OVERHEAD position: derived state 15 and VALID. -/
def overheadSnapshot : Snapshot := ⟨(1 : BitVec 1) ++ (0 : BitVec 27) ++ (15 : BitVec 4), 0, 0, 0⟩

/-- The last sequence bit as it is shown: 0, 1, or 2 for none. -/
def lastSeqField : Option Bool → BitVec 2
  | none => 2
  | some b => (BitVec.ofBool b).setWidth 2

/-- Message bits 63-32 of a notice as it is queued. -/
def Notice.highBits (n : Notice) : BitVec 32 := n.payload.extractLsb' 16 32

/-- Message bits 31-16 of a notice as it is queued. -/
def Notice.lowBits (n : Notice) : BitVec 16 := n.payload.extractLsb' 0 16

/-- Table ROSTER. -/
def RosterEntry.snapshot (retire : Bool) (e : RosterEntry) : Snapshot :=
  { view0 := (1 : BitVec 1) ++ BitVec.ofNat 4 e.leasesHeld ++ BitVec.ofNat 6 e.slotsHeld ++
      BitVec.ofNat 4 e.leaseQuota ++ BitVec.ofNat 6 e.slotQuota ++ presence e.reply ++ lastSeqField e.lastSeq ++
      BitVec.ofNat 5 e.missed ++ e.state.code
    view1 := (0 : BitVec 14) ++ presence (e.reply.bind ReplyCopy.effect) ++ BitVec.ofBool retire ++ e.identity.getD 0
    view2 := match e.reply with
      | none => 0
      | some c => c.notice.highBits
    view3 := match e.reply with
      | none => 0
      | some c => c.notice.lowBits ++ frameField c.effect }

/-- Table REQUEST. -/
def Request.snapshot (r : Request) : Snapshot :=
  { view0 := (1 : BitVec 1) ++ (0 : BitVec 13) ++ handleField r.message.handle ++ BitVec.ofBool r.seq ++
      r.message.code ++ Trib.wire r.sender
    view1 := (0 : BitVec 2) ++ r.message.arg
    view2 := (0 : BitVec 16) ++ r.arrival
    view3 := 0 }

/-- Table DEFERRED. -/
def Deferred.snapshot (d : Deferred) : Snapshot :=
  { view0 := (1 : BitVec 1) ++ (0 : BitVec 14) ++ d.preferred.getD 0 ++ d.priority ++ LenClass.wire d.cls ++
      BitVec.ofBool d.seq ++ Trib.wire d.sender
    view1 := (0 : BitVec 16) ++ d.term
    view2 := d.waitUntil ++ d.arrival
    view3 := 0 }

/-- Table NOTICE. -/
def QueuedNotice.snapshot (q : QueuedNotice) : Snapshot :=
  { view0 := (1 : BitVec 1) ++ (0 : BitVec 20) ++ presence q.effect ++ presence q.notice.handle ++ indexField q.link ++
      presence q.link ++ BitVec.ofBool q.copy ++ BitVec.ofBool q.answer ++ presence q.link
    view1 := q.notice.highBits
    view2 := q.notice.lowBits ++ frameField q.effect
    view3 := 0 }

namespace State

/-- The snapshot of the record that a table code and an index name (10, R195). -/
def snapshotOf (table : BitVec 3) (index : BitVec 6) (s : State) : Snapshot :=
  match table.toNat with
  | 0 => ((s.leases.cells[index.toNat]?).map LeaseEntry.snapshot).getD .empty
  | 1 => ((s.slotAt index.toNat).map Slot.snapshot).getD overheadSnapshot
  | 2 => if h : 1 ≤ index.toNat ∧ index.toNat ≤ 30 then
      (s.roster.get ⟨index.toNat - 1, by omega⟩).snapshot (s.engine.retireFlags.get ⟨index.toNat - 1, by omega⟩)
    else .empty
  | 3 => ((s.requests[index.toNat]?).map Request.snapshot).getD .empty
  | 4 => ((s.deferred[index.toNat]?).map Deferred.snapshot).getD .empty
  | 5 => ((s.notices[index.toNat]?).map QueuedNotice.snapshot).getD .empty
  | _ => .empty

/-! ### The writes (10, R186-R188, R190, R192, R195) -/

/-- CONTROL: PREEMPT_EN if byte 1 is covered, and the frame request (10, R187). -/
def writeControl (w : PortWrite) (s : State) : State :=
  (s.setSettings { s.settings with preemptEn := if w.covers 1 then w.value.getLsbD 8 else s.settings.preemptEn
    }).frameRequest (w.value.extractLsb' 0 2)

/-- ATTENTION: written ones clear their flags (10, R190). -/
def writeAttention (w : PortWrite) (s : State) : State := s.setAttention (s.attention &&& ~~~(w.value.setWidth 10))

/-- ATTN_EN. -/
def writeAttnEn (w : PortWrite) (s : State) : State := s.setAttnEn ((w.merge (s.attnEn.setWidth 32)).setWidth 10)

end State

/-- A field is taken when it is in range or holds the value already (10, R188); a field that the write does not cover
holds its value. -/
def accepts {n : Nat} (old new : BitVec n) (inRange : Bool) : Bool := decide (new = old) || inRange

/-- The field after its judgement: the written value, or its own where that is refused. -/
def judgeField {n : Nat} (old new : BitVec n) (inRange : Bool) : BitVec n := if accepts old new inRange then new else old

/-- D as written is in range: 2 to 7, and only in STOPPED (06, R130). -/
def dInRange (g : GenState) (d : BitVec 4) : Bool :=
  decide (g = .stopped) && decide (2 ≤ d.toNat) && decide (d.toNat ≤ 7)

/-- K as written is in range: 4 to 32. -/
def kInRange (k : BitVec 6) : Bool := decide (4 ≤ k.toNat) && decide (k.toNat ≤ 32)

/-- M as written is in range: 2 to 15. -/
def mInRange (m : BitVec 4) : Bool := decide (2 ≤ m.toNat)

/-- U, the wait limit or the max term as written is in range: not 0. -/
def notZero {n : Nat} (x : BitVec n) : Bool := decide (x ≠ 0)

namespace State

/-- TIMING: each field judged on its own (10, R188; 06, R130). -/
def writeTiming (w : PortWrite) (s : State) : State :=
  let v := w.merge s.timingWord
  let c := s.settings
  let d := v.extractLsb' 0 4
  let k := v.extractLsb' 8 6
  let m := v.extractLsb' 16 4
  let u := v.extractLsb' 24 8
  let allTaken := accepts c.d d (dInRange s.fg.state d) && accepts c.k k (kInRange k) && accepts c.m m (mInRange m) &&
    accepts c.u u (notZero u)
  (s.setSettings { c with
    d := judgeField c.d d (dInRange s.fg.state d), k := judgeField c.k k (kInRange k),
    m := judgeField c.m m (mInRange m), u := judgeField c.u u (notZero u) }).raiseIf (!allTaken) .ctrlIgnored

/-- LIMITS: each field judged on its own (10, R188); every idle limit is accepted. -/
def writeLimits (w : PortWrite) (s : State) : State :=
  let v := w.merge s.limitsWord
  let c := s.settings
  let wait := v.extractLsb' 8 8
  let longest := v.extractLsb' 16 16
  let allTaken := accepts c.waitLimit wait (notZero wait) && accepts c.maxTerm longest (notZero longest)
  (s.setSettings { c with
    idleLimit := v.extractLsb' 0 8, waitLimit := judgeField c.waitLimit wait (notZero wait),
    maxTerm := judgeField c.maxTerm longest (notZero longest) }).raiseIf (!allTaken) .ctrlIgnored

/-- CMD (10, R192): the code is latched with the argument registers, or the command is lost with CMD_OVERRUN. -/
def writeCmd (w : PortWrite) (s : State) : State :=
  let latched := s.setCmd { s.cmd with
    state := .accepted, code := w.value.extractLsb' 0 8, arg0 := s.port.arg0, arg1 := s.port.arg1 }
  match s.cmd.state with
  | .idle => latched
  | .done => latched
  | .accepted => s.raise .cmdOverrun
  | .executing => s.raise .cmdOverrun

/-- VIEW_SELECT as it is held: its unused bits read as zero. -/
def viewSelectWord (w : PortWrite) (s : State) : Word := w.merge s.port.viewSelect &&& 0x3F07

/-- VIEW_SELECT (10, R195): the snapshot is one event, taken between the events of the other blocks. It may come before or
after the reactions to a frame start that are still due (notes/assumptions/3.md). -/
def writeViewSelect (w : PortWrite) (s : State) : State :=
  let t := s.finishEvents
  let v := t.viewSelectWord w
  let x := t.snapshotOf (v.extractLsb' 0 3) (v.extractLsb' 8 6)
  t.setPort { t.port with viewSelect := v, view0 := x.view0, view1 := x.view1, view2 := x.view2, view3 := x.view3 }

/-- A completed write takes effect on its register; the read-only registers change nothing (10, R183, R186). -/
def writeRegister (r : Register) (w : PortWrite) (s : State) : State :=
  match r with
  | .ident => s
  | .control => s.writeControl w
  | .status => s
  | .attention => s.writeAttention w
  | .attnEn => s.writeAttnEn w
  | .frame => s
  | .timing => s.writeTiming w
  | .limits => s.writeLimits w
  | .arg0 => s.setPort { s.port with arg0 := w.merge s.port.arg0 }
  | .arg1 => s.setPort { s.port with arg1 := w.merge s.port.arg1 }
  | .cmd => s.writeCmd w
  | .result => s
  | .viewSelect => s.writeViewSelect w
  | .view0 => s
  | .view1 => s
  | .view2 => s
  | .view3 => s

/-! ### Transactions (10, R183, R184) -/

/-- The port's device address. -/
def deviceAddress (s : State) : BitVec 7 := Config.deviceBase + s.port.straps.setWidth 7

/-- The offset and count phase of a transaction: the register named, if the port acknowledges address, offset and
count. -/
def acknowledged (device : BitVec 7) (offset count : Byte) (s : State) : Option Register :=
  if device = s.deviceAddress ∧ countNamed count then registerAt offset else none

/-- The offset and count of the last acknowledged phase are kept (10, R184; notes/assumptions/14.md). -/
def keepPhase (offset count : Byte) (s : State) : State :=
  s.setPort { s.port with keptOffset := offset, keptCount := count }

/-- The port's transaction as it now stands. -/
def setTransaction (x : PortTransaction) (s : State) : State := s.setPort { s.port with transaction := x }

/-- A write transaction (10, R183), with its STOP or still in progress: not acknowledged, it changes no register and is let
pass; short of its last counted byte, it writes nothing; complete, it takes effect as one event. Its START ends a transaction
in progress, with nothing written. -/
def portWrite (offset : Byte) (w : PortWrite) (stopped : Bool) (s : State) : State :=
  match s.acknowledged w.device offset w.count with
  | none => s.setTransaction (if stopped then .idle else .ignored)
  | some r =>
    let t := (s.keepPhase offset w.count).setTransaction
      (if stopped then .idle else .receiving offset w.count (w.data.take w.count.toNat))
    if w.data.length < w.count.toNat then t else t.writeRegister r w

/-- Further data bytes (10, R183): the write takes effect at its last counted byte, and bytes beyond are discarded. -/
def portBytes (data : List Byte) (s : State) : State :=
  match s.port.transaction with
  | .receiving offset count old =>
    let all := (old ++ data).take count.toNat
    let t := s.setTransaction (.receiving offset count all)
    match registerAt offset with
    | some r => if old.length < count.toNat ∧ count.toNat ≤ (old ++ data).length
      then t.writeRegister r ⟨s.deviceAddress, count, all⟩ else t
    | none => t
  | _ => s

/-- The offset and count phase of a read transaction (10, R184): that of a write transaction, before any data byte. -/
def portReadPhase (device : BitVec 7) (offset count : Byte) (s : State) : State :=
  s.portWrite offset ⟨device, count, []⟩ false

/-- What the port takes at a device address with the read bit (10, R184): if the address is its own, the value of the register
that the kept offset names, whole and at once, and the kept count. When it is taken: `portRead` (notes/assumptions/32.md). -/
def portReadAddress (device : BitVec 7) (s : State) : Option ReadTaken :=
  if device = s.deviceAddress then
    (registerAt s.port.keptOffset).map fun r => ⟨s.readRegister r, s.port.keptCount⟩
  else none

/-- START and a device address with the read bit (10, R184): the value is taken between the events of the other blocks. That a
read may come before or after the reactions to a frame start still due is the model's choice (DESIGN CHOICE, unsafe;
notes/assumptions/32.md). Another device's read is let pass. -/
def portRead (device : BitVec 7) (s : State) : State :=
  match s.finishEvents.portReadAddress device with
  | some x => s.finishEvents.setTransaction (.sending x 0)
  | none => s.setTransaction .ignored

/-- The host acknowledges the byte sent, and the next one follows; or it does not, and the read is over (10, R184). -/
def portAnswer (acknowledged : Bool) (s : State) : State :=
  match s.port.transaction with
  | .sending x k => s.setTransaction (if acknowledged then .sending x (k + 1) else .ignored)
  | _ => s

end State

/-- Byte `k` that a read sends: the low count bytes of the value taken, low byte first, then zeros (10, R184). -/
def ReadTaken.byte (k : Nat) (r : ReadTaken) : Byte := if k < r.count.toNat then r.value.extractLsb' (8 * k) 8 else 0

/-- The byte that the port is sending on SDA; it sends none, and releases SDA but for its acknowledges, outside a read (10,
R184, R185). -/
def State.portSends (s : State) : Option Byte :=
  match s.port.transaction with
  | .sending x k => some (x.byte k)
  | _ => none

/-- One event of the port (10, R183, R184). -/
def State.portEvent (offset : Byte) (e : PortEvent) (s : State) : State :=
  match e with
  | .whole w => s.portWrite offset w true
  | .begun w => s.portWrite offset w false
  | .bytes data => s.portBytes data
  | .readAddress device => s.portRead device
  | .answer acknowledged => s.portAnswer acknowledged
  | .stop => s.setTransaction .idle

/-! ### The rows -/

/-- START_REQUEST (06, R120): a CONTROL write with frame request 1. -/
def execStartRequest (w : PortWrite) (s : State) : Result := .next (s.portWrite 0x04 (w.withRequest 1) true)

/-- HALT_REQUEST (06, R121): a CONTROL write with frame request 2. -/
def execHaltRequest (w : PortWrite) (s : State) : Result := .next (s.portWrite 0x04 (w.withRequest 2) true)

/-- RESUME_REQUEST (06, R122, R123): a CONTROL write with frame request 3. -/
def execResumeRequest (w : PortWrite) (s : State) : Result := .next (s.portWrite 0x04 (w.withRequest 3) true)

/-- TIMING_WRITE (10, R188; 06, R130). -/
def execTimingWrite (w : PortWrite) (s : State) : Result := .next (s.portWrite 0x18 w true)

/-- LIMITS_WRITE (10, R188). -/
def execLimitsWrite (w : PortWrite) (s : State) : Result := .next (s.portWrite 0x1C w true)

/-- ATTENTION_WRITE (10, R190). -/
def execAttentionWrite (w : PortWrite) (s : State) : Result := .next (s.portWrite 0x0C w true)

/-- VIEW_SELECT_WRITE (10, R195). -/
def execViewSelectWrite (w : PortWrite) (s : State) : Result := .next (s.portWrite 0x30 w true)

/-- REGISTER_WRITE (10, R183, R186): a write at any offset (notes/assumptions/23.md), and the port's events that have no row
(notes/assumptions/16.md, 17.md). -/
def execRegisterWrite (offset : Byte) (event : PortEvent) (s : State) : Result := .next (s.portEvent offset event)

/-- CMD_WRITE (10, R192). -/
def execCmdWrite (w : PortWrite) (s : State) : Result := .next (s.portWrite 0x28 w true)

end Sys2Proof.Machine
end

