-- ==== Sys2Proof/Machine/Uplink.lean ====
section
/-!
DEFINITION. The uplink receiver's arrival and what the roster unit makes of it (08, R161-R163; 07, R136-R146), and the
missed-turn limits (07, R137).
-/
namespace Sys2Proof.Machine

namespace State

/-- A missed turn of a PRESENT or SILENT owner (07, R137): the count rises, and the limit it reaches is reported. -/
def missTurn (t : Trib) (s : State) : State :=
  if s.speaks t then
    let e := s.entry t
    let n := e.missed + 1
    let s := s.setEntry t { e with missed := n }
    if 2 * s.settings.m.toNat ≤ n then s.setDue { s.due with missed := some (t, .leaving) }
    else if s.settings.m.toNat ≤ n ∧ e.state = .present then s.setDue { s.due with missed := some (t, .silent) }
    else s
  else s

/-- An answered turn (07, R137): the count becomes 0, and a SILENT owner is PRESENT again with ROSTER raised. -/
def answerTurn (t : Trib) (s : State) : State :=
  let e := s.entry t
  (s.setEntry t { e with missed := 0, state := .present }).raiseIf (decide (e.state = .silent)) .roster

/-- The WELCOME of a JOIN (07, R141). -/
def welcome (t : Trib) (identity : BitVec 16) (seq : Bool) (s : State) : State :=
  s.inform ⟨t, none, seq,
    .welcome identity (BitVec.ofNat 6 (s.entry t).slotQuota) (BitVec.ofNat 4 (s.entry t).leaseQuota)⟩

/-- A JOIN accepted, afresh (07, R141) or by the same device again (07, R142). -/
def joined (t : Trib) (identity : BitVec 16) (seq : Bool) (s : State) : State :=
  let e := s.entry t
  ((s.setEntry t { e with
      state := .present, identity := some identity, missed := 0, lastSeq := none, reply := none }).welcome t identity
    seq).raiseIf (decide (e.state ≠ .present)) .roster

/-- The refusal of a JOIN, which carries the JOIN's identity (07, R143). -/
def refuseJoin (t : Trib) (identity : BitVec 16) (seq : Bool) (r : RefusalReason) (s : State) : State :=
  s.inform ⟨t, none, seq, .refuse r identity⟩

/-- A JOIN in an OPEN turn (07, R140): by the state of the entry at the desired address. -/
def join (t : Trib) (identity : BitVec 16) (seq : Bool) (s : State) : State :=
  if identity = 0 then s
  else
    let room := decide (s.notices.length < Config.noticeCapacity)
    match (s.entry t).state with
    | .absent => if room then s.joined t identity seq else s
    | .present => if (s.entry t).identity = some identity then (if room then s.joined t identity seq else s)
      else s.refuseJoin t identity seq .addressInUse
    | .silent => if (s.entry t).identity = some identity then (if room then s.joined t identity seq else s)
      else s.refuseJoin t identity seq .addressInUse
    | .leaving => s.refuseJoin t identity seq .addressInUse
    | .barred => s.refuseJoin t identity seq .barred

/-- A reply copy queued again for a duplicate (07, R146, R148). -/
def requeueCopy (c : ReplyCopy) (s : State) : State := s.submit ⟨c.notice, none, false, true, c.effect, c.come⟩

/-- The append to the request queue (08, R163). Every entry holds the message's seq bit as received, a LEAVE's too, which no
rule reads (notes/assumptions/29.md). -/
def appendRequest (t : Trib) (m : Message) (seq : Bool) (s : State) : State :=
  s.setRequests (s.requests ++ [⟨t, m, seq, s.counter⟩])

/-- The sender already has an entry in the request queue (07, R145 step 5). -/
def hasRequest (t : Trib) (s : State) : Bool := s.requests.any fun r => decide (r.sender = t)

/-- Steps 3 to 6 of R145 for a message that the receiver passed on: UPLINK_OPEN, the duplicate check (R146; LEAVE is
not sequenced), the request-queue check and acceptance. -/
def takeMessage (t : Trib) (m : Message) (seq : Bool) (s : State) : State :=
  if s.uplink.uplinkOpen = some true then
    match m with
    | .leave => if s.hasRequest t then s else s.appendRequest t m seq
    | _ =>
      if (s.entry t).lastSeq = some seq then
        match (s.entry t).reply with
        | some c => s.requeueCopy c
        | none => s
      else if s.hasRequest t then s
      else (s.setEntry t { s.entry t with lastSeq := some seq, reply := none }).appendRequest t m seq
  else s

/-- The message of the turn owner, whose entry is PRESENT or SILENT (08, R161 step 4, R162; 07, R145). -/
def ownerMessage (t : Trib) (m : UplinkMessage) (s : State) : State :=
  match m.sort with
  | .keep => s
  | .join _ => s
  | .unknown => s
  | .engine (.renew h added) =>
    if added = 0 then s.inform ⟨t, some h, m.seq, .refuse .badArgument 0⟩ else s.takeMessage t (.renew h added) m.seq
  | .engine x => s.takeMessage t x m.seq

/-- The classification of the received word (08, R161), with the outcome it reports (07, R136, R139). -/
def classify (m : UplinkMessage) (s : State) : State :=
  match s.uplink.turn with
  | none => s
  | some .anyone =>
    if m.good then
      match m.sort, tribOf m.sender with
      | .join identity, some t => s.join t identity m.seq
      | _, _ => s
    else s
  | some (.owner t) =>
    if m.good ∧ m.sender = Trib.wire t then
      if s.speaks t then (s.answerTurn t).ownerMessage t m else s
    else s.missTurn t

end State

/-- UPLINK_ARRIVAL (08, R161): once in each frame in progress, at the end of position 9. -/
def execUplinkArrival (bits : BitVec 64) (s : State) : Result :=
  .next (let t := s.settle
    if t.fg.phase = .inFrame ∧ t.uplink.received = none then
      (t.setUplink { t.uplink with received := some bits }).classify (parseUplink bits)
    else t)

/-- MISSED_TURN_LIMIT (07, R137): the limit that the last missed turn reached, if it is still to be applied. -/
def execMissedTurnLimit (s : State) : Result := .next s.takeMissed

end Sys2Proof.Machine
end

