-- ==== Sys2Proof/Machine/Dispatch.lean ====
section
/-!
DEFINITION. The meaning of every command: one arm for each row of spec/opcode_table.json.
-/
namespace Sys2Proof.Machine

/-- The effect of a command on everything but the queue of commands. -/
def exec (i : Instr) (s : State) : Host.Outcome State Fault Refusal :=
  match i with
  | .powerOnReset straps => Sys2Proof.Machine.execPowerOnReset straps s
  | .startRequest write => Sys2Proof.Machine.execStartRequest write s
  | .haltRequest write => Sys2Proof.Machine.execHaltRequest write s
  | .resumeRequest write => Sys2Proof.Machine.execResumeRequest write s
  | .haltComplete => Sys2Proof.Machine.execHaltComplete s
  | .frameStart order => Sys2Proof.Machine.execFrameStart order s
  | .ownerUntilVacate => Sys2Proof.Machine.execOwnerUntilVacate s
  | .guardEnd => Sys2Proof.Machine.execGuardEnd s
  | .incomingGoLive => Sys2Proof.Machine.execIncomingGoLive s
  | .untilWriteInRange => Sys2Proof.Machine.execUntilWriteInRange s
  | .moveTermEndRemoval => Sys2Proof.Machine.execMoveTermEndRemoval s
  | .waitExpiry => Sys2Proof.Machine.execWaitExpiry s
  | .uplinkArrival bits => Sys2Proof.Machine.execUplinkArrival bits s
  | .missedTurnLimit => Sys2Proof.Machine.execMissedTurnLimit s
  | .claimSample position claim => Sys2Proof.Machine.execClaimSample position claim s
  | .frameClose => Sys2Proof.Machine.execFrameClose s
  | .notTakenUpReclaim => Sys2Proof.Machine.execNotTakenUpReclaim s
  | .idleReclaim => Sys2Proof.Machine.execIdleReclaim s
  | .request => Sys2Proof.Machine.execRequest s
  | .withdraw => Sys2Proof.Machine.execWithdraw s
  | .renew => Sys2Proof.Machine.execRenew s
  | .release => Sys2Proof.Machine.execRelease s
  | .query => Sys2Proof.Machine.execQuery s
  | .leave => Sys2Proof.Machine.execLeave s
  | .holderRetirement => Sys2Proof.Machine.execHolderRetirement s
  | .compactionStep => Sys2Proof.Machine.execCompactionStep s
  | .reconsiderationPass => Sys2Proof.Machine.execReconsiderationPass s
  | .pin => Sys2Proof.Machine.execPin s
  | .unpin => Sys2Proof.Machine.execUnpin s
  | .grantTo => Sys2Proof.Machine.execGrantTo s
  | .revoke => Sys2Proof.Machine.execRevoke s
  | .setQuota => Sys2Proof.Machine.execSetQuota s
  | .bar => Sys2Proof.Machine.execBar s
  | .unbar => Sys2Proof.Machine.execUnbar s
  | .evict => Sys2Proof.Machine.execEvict s
  | .clearQ => Sys2Proof.Machine.execClearQ s
  | .compact => Sys2Proof.Machine.execCompact s
  | .compactAbort => Sys2Proof.Machine.execCompactAbort s
  | .flushDeferred => Sys2Proof.Machine.execFlushDeferred s
  | .restart => Sys2Proof.Machine.execRestart s
  | .unknownCommand => Sys2Proof.Machine.execUnknownCommand s
  | .timingWrite write => Sys2Proof.Machine.execTimingWrite write s
  | .limitsWrite write => Sys2Proof.Machine.execLimitsWrite write s
  | .attentionWrite write => Sys2Proof.Machine.execAttentionWrite write s
  | .viewSelectWrite write => Sys2Proof.Machine.execViewSelectWrite write s
  | .registerWrite offset event => Sys2Proof.Machine.execRegisterWrite offset event s
  | .cmdWrite write => Sys2Proof.Machine.execCmdWrite write s

end Sys2Proof.Machine
end

