-- ==== Sys2Proof/Safety.lean ====
section
/-!
DEFINITION. What the statements about the machine speak of: states in which a command is the next event, the states that
commands conclude in, and the invariants, from the laws of the manual (R5, R22, R26, R55, R61, R108, R117, R134, R164,
R188).
-/
namespace Sys2Proof.Machine

/-! ### Notices -/

/-- A GRANT copy whose recorded effect frame has come and whose term has run out by frame `now`: it is passed by (08,
R168). -/
def QueuedNotice.runsOut (now : Frame) (q : QueuedNotice) : Bool :=
  match q.copy, q.notice.body, q.effect with
  | true, .grant _ _ _ term, some e => (q.come || decide ((now - e).toNat < 32768)) && decide (term ≠ 65535) &&
      decide (term.toNat ≤ (now - e).toNat)
  | _, _, _ => false

/-! ### When a command is the next event -/

namespace State

/-- No report is outstanding (03, R54). -/
abbrev quiet (s : State) : Prop := s.due = Due.nothing

/-- Nothing is outstanding that comes before an engine item (03, R50, R54; 05, R93): no until write, no limit, no reclaim, and
the slot map unit's application and the move removals of a frame start are both still to come or both over. The waits may be due
in either case (notes/assumptions/3.md). -/
abbrev heard (s : State) : Prop :=
  s.due.untils = false ∧ s.due.missed = none ∧ s.due.reclaims = [] ∧
    s.due.moveEnds = s.due.vacate ∧ (s.due.vacate = true ∨ (s.due.guardEnd = false ∧ s.due.goLive = false))

/-- The arbiter hands over the latched command, whose code is `c` (03, R51; 10, R192). -/
abbrev commandWaits (c : CommandCode) (s : State) : Prop :=
  s.heard ∧ s.nextWork = some .command ∧ s.cmd.code = c.code

/-- The arbiter hands over the head `r` of the request queue, and its sender speaks (03, R51, R58). -/
abbrev messageWaits (r : Request) (s : State) : Prop :=
  s.heard ∧ s.nextWork = some (.bus r) ∧ s.speaks r.sender = true

/-- The port acknowledges the write and receives every counted byte (10, R183). -/
abbrev receives (w : PortWrite) (s : State) : Prop := w.device = s.deviceAddress ∧ w.complete = true

/-- A frame start follows (06, R120-R122, R126). -/
abbrev frameFollows (s : State) : Prop :=
  (s.fg.state = .running ∧ s.fg.phase ≠ .inFrame) ∨ (s.fg.state = .halting ∧ s.fg.phase = .zeroBegun)

/-- The number of the frame that the frame start begins (06, R117). -/
abbrev newFrame (s : State) : Frame := if s.fg.phase = .zeroBegun then s.fg.counter else s.fg.counter + 1

/-! ### Inside a frame start -/

/-- The frame has begun, and every block's reaction to it is due (06, R126). -/
def begun (s : State) : State :=
  (s.setFg { s.fg with counter := s.newFrame, phase := .inFrame }).setDue
    ⟨true, true, true, true, true, true, s.due.missed, s.due.reclaims⟩

/-- From `s` to `t` the steps of a frame start are taken: each reaction as its own rows take it, and each item as the row of
the work that the arbiter hands out, after what comes before an item; where it hands out none, that alone is taken (03, R50,
R51, R54). -/
def StepsTaken : List FrameStep → State → State → Prop
  | [], s, t => t = s
  | .react r :: rest, s, t => StepsTaken rest (s.takeReaction r) t
  | .item :: rest, s, t => ∃ u, (match s.hear.nextWork with
      | none => u = s.hear
      | some w => exec (s.hear.rowOfWork w) s.hear = .next u) ∧ StepsTaken rest u t

/-- The turn that the roster unit chooses in `s` (07, R135): OPEN in every K-th frame and where nobody speaks, otherwise the
first address after the pointer, wrapping from 30 to 1, whose entry speaks. -/
def TurnIs (turn : Turn) (s : State) : Prop :=
  let place (a : Trib) : Nat := (a.val + 30 - min s.turnPointer 30) % 30
  (s.counter.toNat % s.settings.k.toNat = 0 ∨ (∀ a, s.speaks a = false) → turn = .anyone) ∧
    (s.counter.toNat % s.settings.k.toNat ≠ 0 → ∀ a, s.speaks a = true →
      (∀ b, s.speaks b = true → place a ≤ place b) → turn = .owner a)

/-- The marker built: the turn pointer follows the turn, UPLINK_OPEN is as read from the request queue of `read`, the words are
driven, the RESUMED note is cleared, and the uplink receiver takes its copies (06, R128; 07, R135; 03, R57; 08, R160). -/
def markerBuilt (turn : Turn) (sent : Option Notice) (s read : State) : State :=
  let isOpen := decide (read.requests.length < 12)
  let m := markerWord s.counter turn isOpen s.fg.resumed sent.isSome
  let d : BitVec 64 := match sent with
    | none => 0
    | some n => n.word
  let pointer := match turn with
    | .anyone => s.turnPointer
    | .owner a => a.val + 1
  ((s.setTurnPointer pointer).setFg { s.fg with resumed := false, marker := some m, downlink := some d }).setUplink
    ⟨some turn, some isOpen, none⟩

/-! ### The states that commands conclude in -/

/-- The last-served requester recorded (03, R51). -/
def served (r : Requester) (s : State) : State := s.setEngine { s.engine with lastServed := r }

/-- A command concluded: Management served, the unit DONE, RESULT written and CMD_DONE set (10, R192, R193). -/
def concluded (code : ResultCode) (value : BitVec 16) (s : State) : State :=
  ((s.served .management).setCmd
    { s.cmd with state := .done, result := ⟨s.cmd.code, code, value⟩ }).setAttention (s.attention ||| 0x001)

/-- A message taken from the head of the request queue (03, R56): the entry is gone and Bus is served. -/
def headTaken (s : State) : State := (s.setRequests s.requests.tail).served .bus

/-- The answer to a message (03, R58; 07, R147): queued at the tail with the answer mark, and the reply copy. -/
def answered (link : Option LeaseIdx) (n : Notice) (s : State) : State :=
  (s.setNotices (s.notices ++ [⟨n, link, true, false, none, false⟩])).setRoster
    (s.roster.set n.address { s.roster.get n.address with reply := some ⟨n, none, false⟩ })

/-- The offset and count phase of a whole transaction is kept, and the transaction is over (10, R184). -/
def phaseKept (offset count : Byte) (s : State) : State :=
  s.setPort { s.port with keptOffset := offset, keptCount := count, transaction := .idle }

/-- A CONTROL write but for its frame request: the phase kept, and PREEMPT_EN if byte 1 is covered (10, R187). -/
def controlWritten (w : PortWrite) (s : State) : State :=
  (s.phaseKept 0x04 w.count).setSettings { s.settings with
    preemptEn := if 2 ≤ w.count.toNat then (w.data.getD 1 0).getLsbD 0 else s.settings.preemptEn }

/-- A flag set (10, R190). -/
def flagSet (bit : BitVec 10) (s : State) : State := s.setAttention (s.attention ||| bit)

end State

/-- The commands before which every outstanding report is taken: the events later in a frame than its start's reactions (03,
R54; 09, section 9.2; notes/assumptions/3.md). -/
def settlesFirst : Instr → Bool
  | .haltComplete => true
  | .frameStart _ => true
  | .uplinkArrival _ => true
  | .claimSample _ _ => true
  | .frameClose => true
  | _ => false

/-- The rows that are engine items (03, R50): they act only on work that the arbiter hands out. -/
def isItemRow : Instr → Bool
  | .request => true
  | .withdraw => true
  | .renew => true
  | .release => true
  | .query => true
  | .leave => true
  | .holderRetirement => true
  | .compactionStep => true
  | .reconsiderationPass => true
  | .pin => true
  | .unpin => true
  | .grantTo => true
  | .revoke => true
  | .setQuota => true
  | .bar => true
  | .unbar => true
  | .evict => true
  | .clearQ => true
  | .compact => true
  | .compactAbort => true
  | .flushDeferred => true
  | .restart => true
  | .unknownCommand => true
  | _ => false

/-! ### Holder removal -/

namespace State

/-- The entry `i` holds a lease of tributary `a`. -/
def heldBy (a : Trib) (i : LeaseIdx) (s : State) : Bool :=
  match s.leaseAt i with
  | some l => decide (l.holder = some a)
  | none => false

/-- The run lengths of the leases that a tributary holds, added up. -/
def slotsOf (t : Trib) (s : State) : Nat :=
  ((s.leasesOf t).map fun i => match s.leaseAt i with
    | some l => runLength l.cls
    | none => 0).sum

/-- What a holder removal makes of the records (03, R71; 01, R22), the worker's move and deferred-reconsider among them (05,
R112; 03, R53): `s` before it, `t` after. That a notice to another tributary goes where it names a lease retired is the model's
choice between R22 and R71 (notes/assumptions/33.md). -/
def HolderRemoved (a : Trib) (why : EndReason) (final : RosterState) (s t : State) : Prop :=
  (∀ i, t.leases.get i =
    if s.heldBy a i then ⟨(s.leases.get i).generation + 1, some why, none⟩ else s.leases.get i) ∧
  (∀ p, t.slotAt p = (s.slotAt p).map fun x =>
    let y : Slot := if x.owner.any fun i => s.heldBy a i
      then { x with owner := none, ownerUntil := none, guardUntil := some (s.counter + 2) } else x
    if x.incoming.any fun n => s.heldBy a n.lease then { y with incoming := none } else y) ∧
  t.deferred = s.deferred.filter (fun d => decide (d.sender ≠ a)) ∧
  t.notices = s.notices.filter (fun q => decide (q.notice.address ≠ a) &&
    !(q.notice.handle.any fun h => s.heldBy a h.index && decide (h = s.handleOf h.index))) ∧
  t.entry a = { s.entry a with
    state := final, identity := none, missed := 0, lastSeq := none, reply := none,
    slotsHeld := (s.entry a).slotsHeld - s.slotsOf a,
    leasesHeld := (s.entry a).leasesHeld - (s.leasesOf a).length } ∧
  (∀ b, b ≠ a → t.entry b = s.entry b) ∧
  t.engine.retireFlags = s.engine.retireFlags.set a false ∧
  t.engine.reconsider = (s.engine.reconsider || !(s.leasesOf a).isEmpty) ∧
  (∀ i l, s.leaseAt i = some l → l.holder = some a → s.worker.underMove = some (s.handleOf i) →
    t.worker = { s.worker with status := .active .step, scan := l.start.val + 1, underMove := none } ∧
      t.engine.stepReady = true) ∧
  ((∀ i ∈ s.leasesOf a, s.worker.underMove ≠ some (s.handleOf i)) →
    t.worker = s.worker ∧ t.engine.stepReady = s.engine.stepReady) ∧
  t.fg = s.fg ∧ t.uplink = s.uplink ∧ t.credited = s.credited ∧ t.attnEn = s.attnEn ∧ t.settings = s.settings ∧
  t.port = s.port ∧ t.turnPointer = s.turnPointer ∧ t.due = s.due

end State

/-! ### Invariants -/

namespace State

/-- The law of the queues: at most 12 messages, one from any sender (03, R55); at most 8 deferred requests, one per
tributary, by priority from high to low (03, R55; 04, R75, R76); at most 16 notices (08, R164); and room for the message
of a frame whose marker showed UPLINK_OPEN (03, R57). -/
def QueueLaw (s : State) : Prop :=
  s.requests.length ≤ 12 ∧ (s.requests.map Request.sender).Nodup ∧ s.deferred.length ≤ 8 ∧
    (s.deferred.map Deferred.sender).Nodup ∧ s.deferred.Pairwise (fun a b => b.priority ≤ a.priority) ∧
    s.notices.length ≤ 16 ∧
    (s.uplink.uplinkOpen = some true → s.uplink.received = none → s.requests.length < 12)

/-- The pairings of a position record (02, R26), and that it names only leases that the table holds (01, R22). -/
def SlotLaw (s : State) : Prop :=
  ∀ x ∈ s.slots.cells,
    (x.guardUntil.isSome = true → x.owner = none) ∧ (x.ownerUntil.isSome = true → x.owner.isSome = true) ∧
      (∀ i, x.owner = some i → (s.leaseAt i).isSome = true) ∧
      (∀ e, x.incoming = some e → (s.leaseAt e.lease).isSome = true)

/-- The compaction-step-ready flag is set exactly while the worker is ACTIVE in phase STEP, and it has a lease under move
exactly in WAIT (05, R108, R110-R113). -/
def WorkerLaw (s : State) : Prop :=
  (s.engine.stepReady = true ↔ s.worker.status = .active .step) ∧
    (s.worker.underMove.isSome = true ↔ s.worker.status = .active .wait)

/-- The generator's law: counter 0 and no frame while STOPPED, no frame while HALTED, nothing driven in either, and
counter 0 until frame start 0 (06, R116, R117, R120). -/
def GeneratorLaw (s : State) : Prop :=
  (s.fg.state = .stopped → s.fg.counter = 0 ∧ s.fg.phase = .between ∧ s.fg.resumed = false) ∧
    (s.fg.state = .halted → s.fg.phase = .between) ∧
    (s.fg.state = .stopped ∨ s.fg.state = .halted → s.fg.marker = none ∧ s.fg.downlink = none) ∧
    (s.fg.phase = .zeroBegun → s.fg.counter = 0 ∧ s.fg.resumed = false)

/-- The configuration fields are in their ranges (10, R188). -/
def SettingsLaw (s : State) : Prop :=
  2 ≤ s.settings.d.toNat ∧ s.settings.d.toNat ≤ 7 ∧ 4 ≤ s.settings.k.toNat ∧ s.settings.k.toNat ≤ 32 ∧
    2 ≤ s.settings.m.toNat ∧ s.settings.u ≠ 0 ∧ s.settings.waitLimit ≠ 0 ∧ s.settings.maxTerm ≠ 0

/-- The port's law: the kept offset names a register and the kept count is 1 to 4, and a transaction that receives data is
that of the phase kept, with no more bytes than are counted (10, R183, R184). -/
def PortLaw (s : State) : Prop :=
  offsetNamed s.port.keptOffset = true ∧ 1 ≤ s.port.keptCount.toNat ∧ s.port.keptCount.toNat ≤ 4 ∧
    (∀ o c d, s.port.transaction = .receiving o c d →
      o = s.port.keptOffset ∧ c = s.port.keptCount ∧ d.length ≤ c.toNat)

/-- The law of holdings: held counts are the sums over the leases (07, R134) and within quota (03, R61); a holder is
PRESENT, SILENT or LEAVING (01, R4); pins alone have holder 0 (01, R4); a missed turn whose limit is still to be applied
is that of an owner that speaks (07, R137). -/
def HoldingsLaw (s : State) : Prop :=
  (∀ t : Trib,
    (s.entry t).leasesHeld = (s.leasesOf t).length ∧ (s.entry t).slotsHeld = s.slotsOf t ∧
      (s.entry t).leasesHeld ≤ (s.entry t).leaseQuota ∧ (s.entry t).slotsHeld ≤ (s.entry t).slotQuota ∧
      ((s.leasesOf t).isEmpty = false →
        (s.entry t).state = .present ∨ (s.entry t).state = .silent ∨ (s.entry t).state = .leaving)) ∧
    (∀ i l, s.leaseAt i = some l → (l.origin = .pin ↔ l.holder = none)) ∧
    (∀ t r, s.due.missed = some (t, r) → s.speaks t = true)

/-- Every run and every move target is an aligned run of its class (01, R5; 02, R27). -/
def RunLaw (s : State) : Prop :=
  ∀ i l, s.leaseAt i = some l →
    aligned l.cls l.start.val = true ∧ (∀ m, l.move = some m → aligned l.cls m.target.val = true)

end State

end Sys2Proof.Machine
end

