-- ==== Sys2Proof/Certificates/Slice0/Obligations.lean ====
section
/-!
DEFINITION. The statements for the provers. `State.quiet`, `heard`, `commandWaits`, `messageWaits` and `receives` say when
a command is the next event; `concluded`, `headTaken`, `answered`, `phaseKept`, `controlWritten` and `flagSet` build the
state it leaves (Sys2Proof/Safety.lean). A next state written as updates of the state before leaves every other field as
it was.
-/

open Sys2Proof Sys2Proof.Machine

/-! ### The queue of commands, and settling -/

/-- The command at the front of the queue is carried out on the state with the queue's rest; with an empty queue the
block idles (the model's choice, notes/assumptions/2.md). -/
def Obligations.StepTakesFrontCommand : Prop :=
  (∀ (c : Instr) (rest : List Instr) (s : State), s.pending = c :: rest → step s = exec c (s.setPending rest)) ∧
    (∀ s : State, s.pending = [] → step s = .next s)

/-- No command faults or is refused, and none touches the queue of commands (notes/assumptions/24.md). -/
def Obligations.EveryCommandAnswersNextState : Prop :=
  ∀ (c : Instr) (s : State), ∃ t, exec c s = .next t ∧ t.pending = s.pending

/-- Outstanding reports are taken before HALT_COMPLETE, FRAME_START, UPLINK_ARRIVAL, CLAIM_SAMPLE and FRAME_CLOSE (03, R54;
09, section 9.2), where `settlesFirst` is true. Taking them is running their own rows, a frame start's first and in this
order; with no reclaim decided that is all of it. Before an engine item come the events already given and the until
writes; the waits stay due (R85). A frame start is before an item or after it (R93, R98): where the slot map unit's application
and the move removals are both still due they stay so, and where one of them has begun or is over both are made, so that no item
falls between them (R105). Which commands these are, and that these two go together, is the model's reading
(notes/assumptions/3.md). -/
def Obligations.ReportsAreTakenFirst : Prop :=
  (∀ s : State, s.settle.quiet) ∧
    (∀ (c : Instr) (s : State), settlesFirst c = true → exec c s = exec c s.settle) ∧
    (∀ s : State, ∃ a b c d e f g, exec .ownerUntilVacate s = .next a ∧ exec .guardEnd a = .next b ∧
      exec .incomingGoLive b = .next c ∧ exec .untilWriteInRange c = .next d ∧ exec .moveTermEndRemoval d = .next e ∧
      exec .waitExpiry e = .next f ∧ exec .missedTurnLimit f = .next g ∧
      s.settle = (g.setDue { g.due with reclaims := [] }).reclaimAll g.due.reclaims) ∧
    (∀ s : State, s.hear.heard ∧ s.hear.due.waits = s.due.waits ∧
      (s.due.vacate = true ∧ s.due.moveEnds = true → s.hear.due.vacate = true ∧ s.hear.due.moveEnds = true ∧
        s.hear.due.guardEnd = s.due.guardEnd ∧ s.hear.due.goLive = s.due.goLive) ∧
      (¬(s.due.vacate = true ∧ s.due.moveEnds = true) → s.hear.due.vacate = false ∧ s.hear.due.moveEnds = false ∧
        s.hear.due.guardEnd = false ∧ s.hear.due.goLive = false)) ∧
    (∀ (c : Instr) (s : State), isItemRow c = true → exec c s = exec c s.hear) ∧
    (∀ s : State, ∃ a b c d e, exec .ownerUntilVacate s = .next a ∧ exec .guardEnd a = .next b ∧
      exec .incomingGoLive b = .next c ∧ exec .moveTermEndRemoval c = .next d ∧
      exec .missedTurnLimit (if s.due.vacate = true ∧ s.due.moveEnds = true then s else d) = .next e ∧
      exec .untilWriteInRange ((e.setDue { e.due with reclaims := [] }).reclaimAll e.due.reclaims) = .next s.hear)

/-! ### Power-on reset -/

/-- R23 and R47: after power-on reset no entry holds a lease and every leasable position is FREE. -/
def Obligations.ResetFreesLeasesAndPositions : Prop :=
  ∀ (straps : BitVec 2) (s : State), ∃ t, exec (.powerOnReset straps) s = .next t ∧
    (∀ i : LeaseIdx, t.leases.get i = ⟨0, none, none⟩) ∧ t.entriesInUse = 0 ∧
    (∀ p, 10 ≤ p → p < 64 → t.slotAt p = some ⟨none, none, none, none, false⟩) ∧
    (∀ p, p < 10 → t.slotAt p = none) ∧
    t.engine.reconsider = false

/-- R125 and R150, with the other records after power-on reset (R51, R53, R56, R89, R108, R133, R160, R170, R171, R184,
R194 and the register table): `straps` are the levels sampled (R183). A port transaction in progress is ended and SDA
released, with nothing written (R185). No frame start follows and the lines are low or released until a start request is
taken; the first frame after it is OPEN. The model's choices in it: the commands that wait are kept
(notes/assumptions/2.md), a frame start that does not follow changes nothing (1.md), the words driven are absent while
nothing is driven (21.md), and nothing is outstanding (3.md). -/
def Obligations.ResetSetsEveryOtherRecord : Prop :=
  ∀ (straps : BitVec 2) (s : State), ∃ t, exec (.powerOnReset straps) s = .next t ∧
    t.fg = ⟨.stopped, 0, .between, false, none, none⟩ ∧
    t.engine.lastServed = .internal ∧ (∀ a : Trib, t.engine.retireFlags.get a = false) ∧
    t.engine.stepReady = false ∧ t.requests = [] ∧ t.deferred = [] ∧ t.worker = ⟨.off, 10, none, 0⟩ ∧
    (∀ a : Trib, t.entry a = ⟨.absent, none, 0, none, none, 16, 4, 0, 0⟩) ∧ t.turnPointer = 0 ∧
    t.uplink = ⟨none, none, none⟩ ∧ t.notices = [] ∧ (∀ i : LeaseIdx, t.credited.get i = false) ∧
    t.attention = 0 ∧ t.attnEn = 0 ∧ t.settings = ⟨false, 3, 8, 4, 64, 0, 64, 65535⟩ ∧
    t.port = ⟨straps, 0, 4, 0, 0, 0, 0, 0, 0, 0, .idle⟩ ∧ t.portSends = none ∧
    t.cmd = ⟨.idle, 0, 0, 0, ⟨0, .none, 0⟩⟩ ∧
    t.due = Due.nothing ∧ t.pending = s.pending ∧
    (∀ order, exec (.frameStart order) t = .next t) ∧ (∀ b, t.fsync b = false ∧ t.sdata b = none) ∧
    (∀ w (first : List FrameReaction) j k, t.receives w → ∃ u v, exec (.startRequest w) t = .next u ∧
      exec (.frameStart ⟨first.map .react, [], j, k⟩) u = .next v ∧
      v.uplink.turn = some .anyone)

/-! ### The management port -/

/-- R183, R184: a transaction that is not acknowledged writes nothing and leaves the kept offset and count
(notes/assumptions/14.md); one that ends before its last counted byte writes nothing and leaves its own offset and
count kept. A transaction in progress holds the bytes it has received, and the write takes effect at the last counted
one; a START or STOP before it ends the transaction with nothing written, and bytes beyond it are discarded. A read's
first phase is such a transaction; at the port's address with the read bit it takes the whole value of the register named
by the kept offset, between the events of the other blocks (32.md), and sends its low count bytes, then zeros, as long as
the host acknowledges. That a row of a register is the write at its offset, with the row's own frame request forced, and
that REGISTER_WRITE carries the events with no row, is the model's choice (16.md, 17.md, 23.md). -/
def Obligations.PortAcknowledgesTransactions : Prop :=
  (∀ (o : Byte) (w : PortWrite) (s : State),
    (w.device ≠ 0x2C + s.port.straps.setWidth 7 ∨ o.toNat % 4 ≠ 0 ∨ 0x40 < o.toNat ∨ w.count.toNat = 0 ∨
        4 < w.count.toNat →
      exec (.registerWrite o (.whole w)) s = .next (s.setPort { s.port with transaction := .idle }) ∧
      exec (.registerWrite o (.begun w)) s = .next (s.setPort { s.port with transaction := .ignored })) ∧
    (w.device = 0x2C + s.port.straps.setWidth 7 → o.toNat % 4 = 0 → o.toNat ≤ 0x40 → 1 ≤ w.count.toNat →
        w.count.toNat ≤ 4 →
      (w.data.length < w.count.toNat → exec (.registerWrite o (.whole w)) s = .next (s.phaseKept o w.count) ∧
        exec (.registerWrite o (.begun w)) s = .next (s.setPort { s.port with
          keptOffset := o, keptCount := w.count, transaction := .receiving o w.count w.data })) ∧
      (w.count.toNat ≤ w.data.length → ∃ r, registerAt o = some r ∧
        exec (.registerWrite o (.whole w)) s = .next ((s.phaseKept o w.count).writeRegister r w) ∧
        exec (.registerWrite o (.begun w)) s = .next ((s.setPort { s.port with
          keptOffset := o, keptCount := w.count,
          transaction := .receiving o w.count (w.data.take w.count.toNat) }).writeRegister r w))) ∧
    exec (.timingWrite w) s = exec (.registerWrite 0x18 (.whole w)) s ∧
    exec (.limitsWrite w) s = exec (.registerWrite 0x1C (.whole w)) s ∧
    exec (.attentionWrite w) s = exec (.registerWrite 0x0C (.whole w)) s ∧
    exec (.viewSelectWrite w) s = exec (.registerWrite 0x30 (.whole w)) s ∧
    exec (.cmdWrite w) s = exec (.registerWrite 0x28 (.whole w)) s ∧
    exec (.startRequest w) s = exec (.registerWrite 0x04 (.whole (w.withRequest 1))) s ∧
    exec (.haltRequest w) s = exec (.registerWrite 0x04 (.whole (w.withRequest 2))) s ∧
    exec (.resumeRequest w) s = exec (.registerWrite 0x04 (.whole (w.withRequest 3))) s ∧
    exec (.registerWrite o (.begun { w with data := [] })) s = .next (s.portReadPhase w.device o w.count)) ∧
  (∀ (o : Byte) (data : List Byte) (s : State),
    (∀ p c old r, s.port.transaction = .receiving p c old → registerAt p = some r →
      let t := s.setPort { s.port with transaction := .receiving p c ((old ++ data).take c.toNat) }
      (c.toNat ≤ old.length ∨ old.length + data.length < c.toNat → exec (.registerWrite o (.bytes data)) s = .next t) ∧
      (old.length < c.toNat → c.toNat ≤ old.length + data.length → exec (.registerWrite o (.bytes data)) s =
        .next (t.writeRegister r ⟨0x2C + s.port.straps.setWidth 7, c, (old ++ data).take c.toNat⟩))) ∧
    ((∀ p c old, s.port.transaction ≠ .receiving p c old) → exec (.registerWrite o (.bytes data)) s = .next s) ∧
    exec (.registerWrite o .stop) s = .next (s.setPort { s.port with transaction := .idle })) ∧
  (∀ (device : BitVec 7) (s : State),
    (device ≠ 0x2C + s.port.straps.setWidth 7 → s.portReadAddress device = none ∧
      ∀ o, exec (.registerWrite o (.readAddress device)) s = .next (s.setPort { s.port with transaction := .ignored })) ∧
    (device = 0x2C + s.port.straps.setWidth 7 → ∀ r, registerAt s.port.keptOffset = some r →
      s.portReadAddress device = some ⟨s.readRegister r, s.port.keptCount⟩ ∧
      (let t := s.finishEvents
       ∀ o, exec (.registerWrite o (.readAddress device)) s = .next (t.setPort { s.port with
        transaction := .sending ⟨t.readRegister r, s.port.keptCount⟩ 0 })) ∧
      (s.due.missed = none → s.due.reclaims = [] →
        s.due.vacate = true ∨ (s.due.guardEnd = false ∧ s.due.goLive = false) → s.finishEvents = s))) ∧
  (∀ (o : Byte) (s : State),
    (∀ x k, s.port.transaction = .sending x k → s.portSends = some (x.byte k) ∧
      exec (.registerWrite o (.answer true)) s = .next (s.setPort { s.port with transaction := .sending x (k + 1) }) ∧
      exec (.registerWrite o (.answer false)) s = .next (s.setPort { s.port with transaction := .ignored })) ∧
    ((∀ x k, s.port.transaction ≠ .sending x k) → s.portSends = none ∧
      ∀ a, exec (.registerWrite o (.answer a)) s = .next s)) ∧
  (∀ (x : ReadTaken) (k : Nat), x.byte k = if k < x.count.toNat then x.value.extractLsb' (8 * k) 8 else 0) ∧
  ([0x00, 0x04, 0x08, 0x0C, 0x10, 0x14, 0x18, 0x1C, 0x20, 0x24, 0x28, 0x2C, 0x30, 0x34, 0x38, 0x3C, 0x40] : List Byte).map
    registerAt = [some .ident, some .control, some .status, some .attention, some .attnEn, some .frame, some .timing,
      some .limits, some .arg0, some .arg1, some .cmd, some .result, some .viewSelect, some .view0, some .view1, some .view2,
      some .view3]

/-- R183, R186, R187: ARG0, ARG1 and ATTN_EN take the counted low bytes and keep the others; CONTROL without a frame
request sets PREEMPT_EN if byte 1 is covered; the read-only registers change nothing. What each register shows at a
read (R184, R186, R189, section 10.2). -/
def Obligations.RegisterWritesTakeCountedBytes : Prop :=
  (∀ (w : PortWrite) (s : State), s.receives w →
    (∃ v : Word, exec (.registerWrite 0x20 (.whole w)) s =
        .next ((s.phaseKept 0x20 w.count).setPort { (s.phaseKept 0x20 w.count).port with arg0 := v }) ∧
      ∀ k, k < 4 → v.extractLsb' (8 * k) 8 =
        if k < w.count.toNat then w.data.getD k 0 else s.port.arg0.extractLsb' (8 * k) 8) ∧
    (∃ v : Word, exec (.registerWrite 0x24 (.whole w)) s =
        .next ((s.phaseKept 0x24 w.count).setPort { (s.phaseKept 0x24 w.count).port with arg1 := v }) ∧
      ∀ k, k < 4 → v.extractLsb' (8 * k) 8 =
        if k < w.count.toNat then w.data.getD k 0 else s.port.arg1.extractLsb' (8 * k) 8) ∧
    (∃ v : Word, exec (.registerWrite 0x10 (.whole w)) s = .next ((s.phaseKept 0x10 w.count).setAttnEn (v.setWidth 10)) ∧
      ∀ k, k < 4 → v.extractLsb' (8 * k) 8 =
        if k < w.count.toNat then w.data.getD k 0 else (s.attnEn.setWidth 32 : Word).extractLsb' (8 * k) 8) ∧
    (w.frameRequest = 0 → exec (.registerWrite 0x04 (.whole w)) s = .next (s.controlWritten w)) ∧
    (∀ o ∈ ([0x00, 0x08, 0x14, 0x2C, 0x34, 0x38, 0x3C, 0x40] : List Byte),
      exec (.registerWrite o (.whole w)) s = .next (s.phaseKept o w.count))) ∧
  ∀ s : State,
    s.readRegister .ident = 0x54016410 ∧ s.readRegister .attention = s.attention.setWidth 32 ∧
    s.readRegister .attnEn = s.attnEn.setWidth 32 ∧ s.readRegister .frame = s.fg.counter.setWidth 32 ∧
    s.readRegister .arg0 = s.port.arg0 ∧ s.readRegister .arg1 = s.port.arg1 ∧ s.readRegister .cmd = 0 ∧
    s.readRegister .viewSelect = s.port.viewSelect ∧ s.readRegister .view0 = s.port.view0 ∧
    s.readRegister .view1 = s.port.view1 ∧ s.readRegister .view2 = s.port.view2 ∧ s.readRegister .view3 = s.port.view3 ∧
    (let v := s.readRegister .control
     v.extractLsb' 0 8 = 0 ∧ v.getLsbD 8 = s.settings.preemptEn ∧ v.extractLsb' 9 23 = 0) ∧
    (let v := s.readRegister .status
     v.extractLsb' 0 2 = s.fg.state.code ∧ v.extractLsb' 2 2 = s.cmd.state.code ∧
      v.getLsbD 4 = decide (s.worker.status ≠ .off) ∧ v.extractLsb' 5 8 = BitVec.ofNat 8 s.worker.moves ∧
      v.extractLsb' 13 4 = BitVec.ofNat 4 s.requests.length ∧ v.extractLsb' 17 4 = BitVec.ofNat 4 s.deferred.length ∧
      v.extractLsb' 21 5 = BitVec.ofNat 5 s.notices.length ∧
      v.extractLsb' 26 6 = BitVec.ofNat 6 (s.leases.cells.countP fun e => e.lease.isSome)) ∧
    (let v := s.readRegister .timing
     v.extractLsb' 0 4 = s.settings.d ∧ v.extractLsb' 4 4 = 0 ∧ v.extractLsb' 8 6 = s.settings.k ∧ v.extractLsb' 14 2 = 0 ∧
      v.extractLsb' 16 4 = s.settings.m ∧ v.extractLsb' 20 4 = 0 ∧ v.extractLsb' 24 8 = s.settings.u) ∧
    (let v := s.readRegister .limits
     v.extractLsb' 0 8 = s.settings.idleLimit ∧ v.extractLsb' 8 8 = s.settings.waitLimit ∧
      v.extractLsb' 16 16 = s.settings.maxTerm) ∧
    (let v := s.readRegister .result
     v.extractLsb' 0 8 = s.cmd.result.command ∧ v.extractLsb' 8 8 = s.cmd.result.code.code ∧
      v.extractLsb' 16 16 = s.cmd.result.value) ∧
    [GenState.stopped, .running, .halting, .halted].map GenState.code = [0, 1, 2, 3] ∧
    [CommandState.idle, .accepted, .executing, .done].map CommandState.code = [0, 1, 2, 3] ∧
    [ResultCode.none, .ok, .badArgument, .badHandle, .wrongState, .occupied, .noEntry, .noSpace, .quota, .notPresent,
      .overQuota].map ResultCode.code = [0, 1, 2, 3, 4, 5, 6, 7, 8, 9, 10]

/-- R188 and R130: each covered field of TIMING and LIMITS is judged on its own. A field takes the value its covered
bytes make of it if that is in range or is the value held; otherwise it keeps its own and CTRL_IGNORED is set. -/
def Obligations.ConfigurationFieldsAreJudgedEach : Prop :=
  ∀ (w : PortWrite) (s : State), s.receives w →
    (∃ t, exec (.timingWrite w) s = .next t ∧
      let d := if 0 < w.count.toNat then (w.data.getD 0 0).setWidth 4 else s.settings.d
      let k := if 1 < w.count.toNat then (w.data.getD 1 0).setWidth 6 else s.settings.k
      let m := if 2 < w.count.toNat then (w.data.getD 2 0).setWidth 4 else s.settings.m
      let u := if 3 < w.count.toNat then w.data.getD 3 0 else s.settings.u
      let dTaken := d = s.settings.d ∨ (s.fg.state = .stopped ∧ 2 ≤ d.toNat ∧ d.toNat ≤ 7)
      let kTaken := k = s.settings.k ∨ (4 ≤ k.toNat ∧ k.toNat ≤ 32)
      let mTaken := m = s.settings.m ∨ 2 ≤ m.toNat
      let uTaken := u = s.settings.u ∨ u ≠ 0
      t = ((s.phaseKept 0x18 w.count).setSettings { s.settings with
        d := if dTaken then d else s.settings.d, k := if kTaken then k else s.settings.k,
        m := if mTaken then m else s.settings.m, u := if uTaken then u else s.settings.u }).setAttention
          (if dTaken ∧ kTaken ∧ mTaken ∧ uTaken then s.attention else s.attention ||| 0x200)) ∧
    (∃ t, exec (.limitsWrite w) s = .next t ∧
      let idle := if 0 < w.count.toNat then w.data.getD 0 0 else s.settings.idleLimit
      let wait := if 1 < w.count.toNat then w.data.getD 1 0 else s.settings.waitLimit
      let low := if 2 < w.count.toNat then w.data.getD 2 0 else s.settings.maxTerm.extractLsb' 0 8
      let high := if 3 < w.count.toNat then w.data.getD 3 0 else s.settings.maxTerm.extractLsb' 8 8
      let longest : BitVec 16 := high ++ low
      let waitTaken := wait = s.settings.waitLimit ∨ wait ≠ 0
      let longestTaken := longest = s.settings.maxTerm ∨ longest ≠ 0
      t = ((s.phaseKept 0x1C w.count).setSettings { s.settings with
        idleLimit := idle, waitLimit := if waitTaken then wait else s.settings.waitLimit,
        maxTerm := if longestTaken then longest else s.settings.maxTerm }).setAttention
          (if waitTaken ∧ longestTaken then s.attention else s.attention ||| 0x200))

/-- R190, R191: written ones clear their flags, written zeros and bytes not written leave theirs, and ATTN_N is low
exactly while an enabled flag is set. -/
def Obligations.AttentionWriteClearsFlags : Prop :=
  (∀ (w : PortWrite) (s : State), s.receives w → ∃ v : BitVec 10,
    exec (.attentionWrite w) s = .next ((s.phaseKept 0x0C w.count).setAttention v) ∧
    ∀ b, b < 10 → v.getLsbD b =
      (s.attention.getLsbD b && !(decide (b / 8 < w.count.toNat) && (w.data.getD (b / 8) 0).getLsbD (b % 8)))) ∧
  (∀ s : State, s.attnLow = true ↔ ∃ b, b < 10 ∧ s.attention.getLsbD b = true ∧ s.attnEn.getLsbD b = true)

/-- R195, R196: a VIEW_SELECT write holds table and index as written and takes the snapshot of the record they name,
between the events of the other blocks; it may come before or after the reactions to a frame start that are still due
(notes/assumptions/3.md). VALID, the fields of each table, and zeros for a table or an index that names no record. -/
def Obligations.ViewSelectTakesSnapshot : Prop :=
  (∀ (w : PortWrite) (s : State), s.receives w → ∃ v : Word,
    v.extractLsb' 0 3 = (w.data.getD 0 0).extractLsb' 0 3 ∧
    v.extractLsb' 8 6 = (if 1 < w.count.toNat then (w.data.getD 1 0).extractLsb' 0 6
      else s.port.viewSelect.extractLsb' 8 6) ∧
    v &&& 0x3F07 = v ∧
    (let t := (s.phaseKept 0x30 w.count).finishEvents
     let x := t.snapshotOf (v.extractLsb' 0 3) (v.extractLsb' 8 6)
     exec (.viewSelectWrite w) s = .next (t.setPort { t.port with
      viewSelect := v, view0 := x.view0, view1 := x.view1, view2 := x.view2, view3 := x.view3 }))) ∧
  (∀ (s : State) (n : BitVec 6),
    (∀ table : BitVec 3, 6 ≤ table.toNat → s.snapshotOf table n = ⟨0, 0, 0, 0⟩) ∧
    (32 ≤ n.toNat → s.snapshotOf 0 n = ⟨0, 0, 0, 0⟩) ∧
    (∀ i : LeaseIdx, i.val = n.toNat →
      let x := s.snapshotOf 0 n
      let g := (s.leases.get i).generation
      (s.leaseAt i = none → x.view0.extractLsb' 0 21 = 0 ∧ x.view0.extractLsb' 21 3 = g ∧
        x.view0.extractLsb' 24 4 = endReasonCode (s.leases.get i).lastReason ∧ x.view0.extractLsb' 28 3 = 0 ∧
        x.view0.getLsbD 31 = true ∧ x.view1 = 0 ∧ x.view2 = 0 ∧ x.view3 = 0) ∧
      (∀ l, s.leaseAt i = some l →
        x.view0.extractLsb' 0 3 = l.state.code ∧ (x.view0.extractLsb' 3 5).toNat = (l.holder.map fun a => a.val + 1).getD 0 ∧
        x.view0.extractLsb' 8 2 = l.origin.code ∧ (x.view0.extractLsb' 10 6).toNat = l.start.val ∧
        (x.view0.extractLsb' 16 3).toNat = l.cls.val ∧ x.view0.extractLsb' 19 2 = l.priority ∧
        x.view0.extractLsb' 21 3 = g ∧ x.view0.extractLsb' 24 4 = endReasonCode l.endReason ∧
        x.view0.getLsbD 28 = l.seqEcho ∧ x.view0.getLsbD 29 = l.takenUp ∧ x.view0.getLsbD 30 = false ∧
        x.view0.getLsbD 31 = true ∧
        x.view1.extractLsb' 0 16 = l.term ∧ x.view1.extractLsb' 16 8 = BitVec.ofNat 8 l.idle ∧
        x.view1.getLsbD 24 = l.startFrame.isSome ∧ x.view1.getLsbD 25 = l.endFrame.isSome ∧
        x.view1.getLsbD 26 = l.move.isSome ∧ x.view1.getLsbD 27 = (l.move.bind Move.effect).isSome ∧
        x.view1.extractLsb' 28 4 = 0 ∧
        x.view2.extractLsb' 0 16 = l.startFrame.getD 0 ∧ x.view2.extractLsb' 16 16 = l.endFrame.getD 0 ∧
        (x.view3.extractLsb' 0 6).toNat = (l.move.map fun m => m.target.val).getD 0 ∧ x.view3.extractLsb' 6 10 = 0 ∧
        x.view3.extractLsb' 16 16 = (l.move.bind Move.effect).getD 0)) ∧
    (n.toNat < 10 → s.snapshotOf 1 n = ⟨0x8000000F, 0, 0, 0⟩) ∧
    (∀ y, s.slotAt n.toNat = some y →
      let x := s.snapshotOf 1 n
      x.view0.extractLsb' 0 4 = (if y.owner.isSome then
          (if y.ownerUntil.isSome then (if y.incoming.isSome then 6 else 5) else if y.incoming.isSome then 4 else 3)
        else if y.guardUntil.isSome then (if y.incoming.isSome then 8 else 7)
        else if y.incoming.isSome then 2 else if y.quarantine then 1 else 0) ∧
      x.view0.getLsbD 4 = y.quarantine ∧ x.view0.getLsbD 5 = y.owner.isSome ∧
      (x.view0.extractLsb' 6 5).toNat = (y.owner.map fun i => i.val).getD 0 ∧ x.view0.getLsbD 11 = y.incoming.isSome ∧
      (x.view0.extractLsb' 12 5).toNat = (y.incoming.map fun e => e.lease.val).getD 0 ∧
      x.view0.getLsbD 17 = (y.incoming.bind Incoming.fromFrame).isSome ∧
      x.view0.getLsbD 18 = (y.incoming.bind Incoming.untilFrame).isSome ∧
      x.view0.getLsbD 19 = y.ownerUntil.isSome ∧ x.view0.getLsbD 20 = y.guardUntil.isSome ∧
      x.view0.extractLsb' 21 10 = 0 ∧ x.view0.getLsbD 31 = true ∧
      x.view1.extractLsb' 0 16 = y.ownerUntil.getD 0 ∧ x.view1.extractLsb' 16 16 = y.guardUntil.getD 0 ∧
      x.view2.extractLsb' 0 16 = (y.incoming.bind Incoming.fromFrame).getD 0 ∧
      x.view2.extractLsb' 16 16 = (y.incoming.bind Incoming.untilFrame).getD 0 ∧ x.view3 = 0) ∧
    (n.toNat = 0 ∨ 31 ≤ n.toNat → s.snapshotOf 2 n = ⟨0, 0, 0, 0⟩) ∧
    (∀ a : Trib, a.val + 1 = n.toNat →
      let x := s.snapshotOf 2 n
      let e := s.entry a
      x.view0.extractLsb' 0 3 = e.state.code ∧ x.view0.extractLsb' 3 5 = BitVec.ofNat 5 e.missed ∧
      x.view0.extractLsb' 8 2 = (match e.lastSeq with
        | none => 2
        | some false => 0
        | some true => 1) ∧
      x.view0.getLsbD 10 = e.reply.isSome ∧ x.view0.extractLsb' 11 6 = BitVec.ofNat 6 e.slotQuota ∧
      x.view0.extractLsb' 17 4 = BitVec.ofNat 4 e.leaseQuota ∧ x.view0.extractLsb' 21 6 = BitVec.ofNat 6 e.slotsHeld ∧
      x.view0.extractLsb' 27 4 = BitVec.ofNat 4 e.leasesHeld ∧ x.view0.getLsbD 31 = true ∧
      x.view1.extractLsb' 0 16 = e.identity.getD 0 ∧ x.view1.getLsbD 16 = s.engine.retireFlags.get a ∧
      x.view1.getLsbD 17 = (e.reply.bind ReplyCopy.effect).isSome ∧ x.view1.extractLsb' 18 14 = 0 ∧
      x.view2 = (e.reply.map fun c => c.notice.word.extractLsb' 32 32).getD 0 ∧
      x.view3.extractLsb' 16 16 = (e.reply.map fun c => c.notice.word.extractLsb' 16 16).getD 0 ∧
      x.view3.extractLsb' 0 16 = (e.reply.bind ReplyCopy.effect).getD 0) ∧
    (s.requests.length ≤ n.toNat → s.snapshotOf 3 n = ⟨0, 0, 0, 0⟩) ∧
    (∀ r, s.requests[n.toNat]? = some r →
      let x := s.snapshotOf 3 n
      (x.view0.extractLsb' 0 5).toNat = r.sender.val + 1 ∧
      x.view0.extractLsb' 5 4 = (match r.message with
        | .request _ => 3
        | .withdraw => 4
        | .renew _ _ => 5
        | .release _ => 6
        | .query _ => 7
        | .leave => 8) ∧
      x.view0.getLsbD 9 = r.seq ∧ x.view0.extractLsb' 10 8 = (match r.message.handle with
        | none => 0
        | some h => h.wire) ∧
      x.view0.extractLsb' 18 13 = 0 ∧ x.view0.getLsbD 31 = true ∧ x.view1.extractLsb' 30 2 = 0 ∧
      (∀ a, r.message = .request a → x.view1.extractLsb' 27 3 = a.cls ∧ x.view1.extractLsb' 25 2 = a.priority ∧
        x.view1.extractLsb' 9 16 = a.term ∧ x.view1.getLsbD 8 = a.defer ∧ x.view1.extractLsb' 2 6 = a.preferred ∧
        x.view1.extractLsb' 0 2 = 0) ∧
      (∀ h added, r.message = .renew h added → x.view1.extractLsb' 14 16 = added ∧ x.view1.extractLsb' 0 14 = 0) ∧
      ((∀ a, r.message ≠ .request a) → (∀ h added, r.message ≠ .renew h added) → x.view1 = 0) ∧
      x.view2 = r.arrival.setWidth 32 ∧ x.view3 = 0) ∧
    (s.deferred.length ≤ n.toNat → s.snapshotOf 4 n = ⟨0, 0, 0, 0⟩) ∧
    (∀ d, s.deferred[n.toNat]? = some d →
      let x := s.snapshotOf 4 n
      (x.view0.extractLsb' 0 5).toNat = d.sender.val + 1 ∧ x.view0.getLsbD 5 = d.seq ∧
      (x.view0.extractLsb' 6 3).toNat = d.cls.val ∧ x.view0.extractLsb' 9 2 = d.priority ∧
      x.view0.extractLsb' 11 6 = d.preferred.getD 0 ∧ x.view0.extractLsb' 17 14 = 0 ∧ x.view0.getLsbD 31 = true ∧
      x.view1 = d.term.setWidth 32 ∧ x.view2.extractLsb' 0 16 = d.arrival ∧ x.view2.extractLsb' 16 16 = d.waitUntil ∧
      x.view3 = 0) ∧
    (s.notices.length ≤ n.toNat → s.snapshotOf 5 n = ⟨0, 0, 0, 0⟩) ∧
    (∀ q, s.notices[n.toNat]? = some q →
      let x := s.snapshotOf 5 n
      x.view0.getLsbD 0 = q.link.isSome ∧ x.view0.getLsbD 1 = q.answer ∧ x.view0.getLsbD 2 = q.copy ∧
      x.view0.getLsbD 3 = q.link.isSome ∧ (x.view0.extractLsb' 4 5).toNat = (q.link.map fun i => i.val).getD 0 ∧
      x.view0.getLsbD 9 = q.notice.handle.isSome ∧ x.view0.getLsbD 10 = q.effect.isSome ∧
      x.view0.extractLsb' 11 20 = 0 ∧ x.view0.getLsbD 31 = true ∧ x.view1 = q.notice.word.extractLsb' 32 32 ∧
      x.view2.extractLsb' 16 16 = q.notice.word.extractLsb' 16 16 ∧ x.view2.extractLsb' 0 16 = q.effect.getD 0 ∧
      x.view3 = 0)) ∧
  [LeaseState.announcing, .pending, .active, .ending].map LeaseState.code = [1, 2, 3, 4] ∧
  [Origin.bus, .granted, .pin].map Origin.code = [0, 1, 2] ∧
  [RosterState.absent, .present, .silent, .leaving, .barred].map RosterState.code = [0, 1, 2, 3, 4] ∧
  [none, some EndReason.holderRelease, some .hostRevoke, some .preempted, some .expired, some .notTakenUp, some .idle,
    some .holderGone, some .barred, some .restart].map endReasonCode = [0, 1, 2, 3, 4, 5, 6, 7, 8, 9]

/-- R192: a CMD write latches its code with the argument registers in IDLE and DONE, and is lost with CMD_OVERRUN in
ACCEPTED and EXECUTING. -/
def Obligations.CommandWriteLatches : Prop :=
  ∀ (w : PortWrite) (s : State), s.receives w →
    (s.cmd.state = .idle ∨ s.cmd.state = .done →
      exec (.cmdWrite w) s = .next ((s.phaseKept 0x28 w.count).setCmd { s.cmd with
        state := .accepted, code := w.data.getD 0 0, arg0 := s.port.arg0, arg1 := s.port.arg1 })) ∧
    (s.cmd.state = .accepted ∨ s.cmd.state = .executing →
      exec (.cmdWrite w) s = .next ((s.phaseKept 0x28 w.count).flagSet 0x002))

/-! ### The frame generator -/

/-- R119 to R123: each frame request in each generator state. An ignored request sets CTRL_IGNORED alone. Where frame 0
has begun by a start request and its frame start is still to come, a halt lets frame 0 complete
(notes/assumptions/6.md). With no frame in progress it is HALTED at once, also after a resume whose frame start is
still to come, the RESUMED note kept (7.md); a resume in HALTING cancels the halt, also after the frame close (28.md).
That each row forces its own request into the CONTROL write is the model's choice (23.md). -/
def Obligations.FrameRequestsActByState : Prop :=
  ∀ (w : PortWrite) (s : State), s.receives w →
    (s.fg.state = .stopped → exec (.startRequest w) s =
      .next ((s.controlWritten w).setFg { s.fg with state := .running, phase := .zeroBegun })) ∧
    (s.fg.state ≠ .stopped → exec (.startRequest w) s = .next ((s.controlWritten w).flagSet 0x200)) ∧
    (s.fg.state = .running → s.fg.phase ≠ .between → exec (.haltRequest w) s =
      .next ((s.controlWritten w).setFg { s.fg with state := .halting })) ∧
    (s.fg.state = .running → s.fg.phase = .between → exec (.haltRequest w) s =
      .next (((s.controlWritten w).setFg { s.fg with state := .halted, marker := none, downlink := none }).flagSet
        0x100)) ∧
    (s.fg.state ≠ .running → exec (.haltRequest w) s = .next ((s.controlWritten w).flagSet 0x200)) ∧
    (s.fg.state = .halted → exec (.resumeRequest w) s =
      .next ((s.controlWritten w).setFg { s.fg with state := .running, resumed := true })) ∧
    (s.fg.state = .halting → exec (.resumeRequest w) s =
      .next ((s.controlWritten w).setFg { s.fg with state := .running })) ∧
    (s.fg.state = .stopped ∨ s.fg.state = .running →
      exec (.resumeRequest w) s = .next ((s.controlWritten w).flagSet 0x200))

/-- R121: after the frame close of the frame that completes in HALTING the generator is HALTED, HALTED is raised, and
nothing is driven; at any other time the row changes nothing (notes/assumptions/1.md). -/
def Obligations.HaltCompletesAfterFrameClose : Prop :=
  ∀ s : State, s.quiet →
    (s.fg.state = .halting → s.fg.phase = .between → exec .haltComplete s =
      .next ((s.setFg { s.fg with state := .halted, marker := none, downlink := none }).flagSet 0x100)) ∧
    (s.fg.state ≠ .halting ∨ s.fg.phase ≠ .between → exec .haltComplete s = .next s)

/-- R117, R126, R128, R160: at a frame start the counter is set, a frame is in progress, the marker is built from the
values that hold, the RESUMED note is cleared and the uplink receiver copies turn and UPLINK_OPEN; FSYNC and SDATA in
the frame (R114, R115; notes/assumptions/19.md, 21.md); the marker's layout and check (R159). Where no frame start
follows, the row changes nothing (1.md); one follows frame 0's beginning in HALTING too (6.md). Reactions and engine items
come before and after the sending in any order, the turn is chosen after `j` of them and the request queue is read after
`k`; a RESTART among them ends the frame start there (R50, R57, R124; 30.md). -/
def Obligations.FrameStartNumbersAndMarksFrame : Prop :=
  (∀ (first : List FrameReaction) (j k : Nat) (s : State), s.quiet →
    (s.frameFollows → ∃ (t : State) (turn : Turn) (sent : Option Notice),
        exec (.frameStart ⟨first.map .react, [], j, k⟩) s = .next t ∧
        (let isOpen := decide (s.requests.length < 12)
         let m := markerWord s.newFrame turn isOpen s.fg.resumed sent.isSome
         let d : BitVec 64 := match sent with
          | none => 0
          | some n => n.word
         t.fg = ⟨s.fg.state, s.newFrame, .inFrame, false, some m, some d⟩ ∧ t.uplink = ⟨some turn, some isOpen, none⟩ ∧
          (∀ b, t.fsync b = decide (b = 0)) ∧ (∀ b, b < 32 → t.sdata b = some (m.getMsbD b)) ∧
          (∀ b, 32 ≤ b → b < 96 → t.sdata b = some (d.getMsbD (b - 32))) ∧ (∀ b, 96 ≤ b → t.sdata b = none)) ∧
        t.requests = s.requests ∧ t.credited = s.credited ∧ t.settings = s.settings ∧ t.attnEn = s.attnEn ∧
        t.port = s.port ∧ t.cmd = s.cmd ∧ t.pending = s.pending ∧ t.engine.lastServed = s.engine.lastServed ∧
        t.due.missed = none ∧ t.due.reclaims = []) ∧
    (s.fg.state = .stopped ∨ s.fg.state = .halted ∨ s.fg.phase = .inFrame ∨
        (s.fg.state = .halting ∧ s.fg.phase = .between) →
      ∀ order, exec (.frameStart order) s = .next s)) ∧
  (∀ (pre : List FrameStep) (s b : State), s.quiet → s.frameFollows → State.StepsTaken pre s.begun b →
    (b.fg.phase ≠ .inFrame → ∀ post j k, exec (.frameStart ⟨pre, post, j, k⟩) s = .next b) ∧
    (b.fg.phase = .inFrame → ∃ (u : State) (sent : Option Notice), ∀ post j k t, State.StepsTaken post u t →
      (t.fg.phase ≠ .inFrame → exec (.frameStart ⟨pre, post, j, k⟩) s = .next t) ∧
      (t.fg.phase = .inFrame → ∀ c r,
        (let reached (n : Nat) (x : State) : Prop := (n ≤ pre.length ∧ State.StepsTaken (pre.take n) s.begun x) ∨
          (pre.length < n ∧ State.StepsTaken (post.take (n - pre.length)) u x)
         reached j c ∧ reached k r) →
        ∃ turn, State.TurnIs turn c ∧ exec (.frameStart ⟨pre, post, j, k⟩) s = .next (t.markerBuilt turn sent r)))) ∧
  (∀ (now : Frame) (turn : Turn) (isOpen resumed follows : Bool),
    let m := markerWord now turn isOpen resumed follows
    m.extractLsb' 16 16 = now ∧ (m.extractLsb' 11 5).toNat = (match turn with
      | .anyone => 31
      | .owner a => a.val + 1) ∧
    m.getLsbD 10 = isOpen ∧ m.getLsbD 9 = resumed ∧ m.getLsbD 8 = follows ∧
    m.extractLsb' 0 8 = crc8 ((List.range 24).map m.getMsbD)) ∧
  crc8 [] = 0 ∧
  (∀ l b, crc8 (l ++ [b]) = if b ^^ (crc8 l).msb then (crc8 l <<< 1) ^^^ 0x07 else crc8 l <<< 1)

/-- R135: every K-th frame and a frame with nobody to speak are OPEN and leave the pointer; any other is given to the
first address after the pointer, wrapping from 30 to 1, whose entry speaks, and the pointer follows. One follows frame
0's beginning in HALTING too (notes/assumptions/6.md). The entries are those after as many of the reactions and engine
items of the frame start as the sender says, here `j` of those before the sending (30.md; of all of them, see
FrameStartNumbersAndMarksFrame). -/
def Obligations.FrameStartChoosesTurn : Prop :=
  ∀ (first : List FrameStep) (j k : Nat) (s b c : State), s.quiet → s.frameFollows →
    State.StepsTaken first s.begun b → b.fg.phase = .inFrame →
    j ≤ first.length → State.StepsTaken (first.take j) s.begun c →
    ∃ (t : State) (turn : Turn), exec (.frameStart ⟨first, [], j, k⟩) s = .next t ∧ t.uplink.turn = some turn ∧
      (let now := s.newFrame
       let place (a : Trib) : Nat := (a.val + 30 - min s.turnPointer 30) % 30
       (now.toNat % s.settings.k.toNat = 0 ∨ (∀ a, c.speaks a = false) →
          turn = .anyone ∧ t.turnPointer = s.turnPointer) ∧
        (now.toNat % s.settings.k.toNat ≠ 0 → ∀ a, c.speaks a = true →
          (∀ b, c.speaks b = true → place a ≤ place b) → turn = .owner a ∧ t.turnPointer = a.val + 1))

/-- R166, R168, R148, R167: after the counter is set (`begun`) and the reactions and engine items that come before the
sending are taken (notes/assumptions/4.md, 30.md), each reaction as its own rows take it, the oldest notice is sent, GRANT
copies with no frame left being passed over: an effect-bearing one with offset D, a copy with its offset and term counted
from its recorded effect frame. With no notice the downlink is idle. The sending of an answered GRANT or RELEASED records
its effect frame with the copy held and in the copies queued (11.md), and an effect frame that has come is marked on the
copies held (12.md). A linked MOVE may retire its lease (MoveSentFixesEffectFrame); a sending with no link leaves the
lease table, the slot map, the engine and the worker as they were, and none touches the other queues and records. The
notice's layout and check (R153, R155 to R158). -/
def Obligations.OldestNoticeIsSent : Prop :=
  (∀ s : State,
    s.begun = (s.setFg { s.fg with counter := s.newFrame, phase := .inFrame }).setDue
      ⟨true, true, true, true, true, true, s.due.missed, s.due.reclaims⟩ ∧
    (∃ u v, exec .ownerUntilVacate s = .next u ∧ exec .guardEnd u = .next v ∧
      exec .incomingGoLive v = .next (s.takeReaction .slotMap)) ∧
    exec .untilWriteInRange s = .next (s.takeReaction .untils) ∧
    exec .moveTermEndRemoval s = .next (s.takeReaction .moveEnds) ∧
    exec .waitExpiry s = .next (s.takeReaction .waits)) ∧
  (∀ (first : List FrameStep) (j k : Nat) (s b : State), s.quiet → s.frameFollows →
    State.StepsTaken first s.begun b → b.fg.phase = .inFrame →
    let now := s.newFrame
    let marked (c : ReplyCopy) : ReplyCopy := match c.effect with
      | some e => if (now - e).toNat < 32768 then { c with come := true } else c
      | none => c
    (b.notices.dropWhile (QueuedNotice.runsOut now) = [] → ∃ t, exec (.frameStart ⟨first, [], j, k⟩) s = .next t ∧
      t.notices = [] ∧
      t.fg.downlink = some 0 ∧ (t.fg.marker.map fun m => m.getLsbD 8) = some false ∧
      ∀ a, t.entry a = { b.entry a with reply := (b.entry a).reply.map marked }) ∧
    (∀ q rest, b.notices.dropWhile (QueuedNotice.runsOut now) = q :: rest → ∃ (t : State) (m : Notice),
      exec (.frameStart ⟨first, [], j, k⟩) s = .next t ∧ t.fg.downlink = some m.word ∧
      (t.fg.marker.map fun m => m.getLsbD 8) = some true ∧
      (q.link.isSome = true → m = q.notice.withOffset (s.settings.d.setWidth 3)) ∧
      (q.link = none → q.copy = false → m = q.notice) ∧
      (q.link = none → q.copy = true → q.notice.isGrantOrReleased = false → m = q.notice) ∧
      (∀ o reason, q.link = none → q.copy = true → q.notice.body = .released o reason →
        m = { q.notice with
          body := .released (match q.effect with
            | none => 0
            | some e => if q.come = true ∨ (now - e).toNat < 32768 then 0 else (e - now).setWidth 3) reason }) ∧
      (∀ start c o term, q.link = none → q.copy = true → q.notice.body = .grant start c o term →
        m = { q.notice with
          body := match q.effect with
            | none => .grant start c 0 term
            | some e => if q.come = true ∨ (now - e).toNat < 32768
                then .grant start c 0 (if term = 65535 then term else term - (now - e))
                else .grant start c ((e - now).setWidth 3) term }) ∧
      (q.link = none ∨ q.notice.isMove = false →
        let e := if q.link.isSome then now + s.settings.d.setWidth 16 else now
        let records : Bool := q.answer && q.notice.isGrantOrReleased
        t.notices = (rest.map fun r => if records = true ∧ r.copy = true ∧ r.notice.address = q.notice.address ∧
            r.notice.body.kind = q.notice.body.kind ∧ r.notice.handle = q.notice.handle ∧ r.effect = none
          then { r with effect := some e } else r) ∧
        ∀ a, t.entry a = { b.entry a with
          reply := (b.entry a).reply.map fun c =>
            marked (if records = true ∧ a = q.notice.address ∧ c.notice = q.notice ∧ c.effect = none
              then { c with effect := some e } else c) })) ∧
    (∀ t, exec (.frameStart ⟨first, [], j, k⟩) s = .next t →
      t.requests = b.requests ∧ t.deferred = b.deferred ∧ t.credited = b.credited ∧ t.attnEn = b.attnEn ∧
      t.settings = b.settings ∧ t.port = b.port ∧ t.cmd = b.cmd ∧ t.due = b.due ∧
      ((∀ q ∈ (b.notices.dropWhile (QueuedNotice.runsOut now)).head?, q.link = none) →
        t.leases = b.leases ∧ t.slots = b.slots ∧ t.engine = b.engine ∧ t.worker = b.worker ∧
        t.attention = b.attention))) ∧
  (∀ n : Notice, let w := n.word
    w.extractLsb' 60 4 = n.body.kind ∧ (w.extractLsb' 55 5).toNat = n.address.val + 1 ∧ w.getLsbD 54 = n.seqEcho ∧
    (n.handle = none → w.extractLsb' 46 8 = 0) ∧
    (∀ h, n.handle = some h → (w.extractLsb' 49 5).toNat = h.index.val ∧ w.extractLsb' 46 3 = h.generation) ∧
    w.extractLsb' 16 30 = n.body.arg ∧ w.extractLsb' 0 16 = crc16 ((List.range 48).map w.getMsbD)) ∧
  (∀ (p : Pos) (c : LenClass) (o : BitVec 3) (x : BitVec 16) (r : EndReason) (why : RefusalReason) (k : BitVec 6)
      (j : BitVec 4) (y : BitVec 8) (f : Bool) (st : LeaseState),
    (let b := NoticeBody.grant p c o x
     b.kind = 1 ∧ (b.arg.extractLsb' 24 6).toNat = p.val ∧ (b.arg.extractLsb' 21 3).toNat = c.val ∧
      b.arg.extractLsb' 18 3 = o ∧ b.arg.extractLsb' 2 16 = x ∧ b.arg.extractLsb' 0 2 = 0) ∧
    (let b := NoticeBody.move p o
     b.kind = 2 ∧ (b.arg.extractLsb' 24 6).toNat = p.val ∧ b.arg.extractLsb' 21 3 = o ∧ b.arg.extractLsb' 0 21 = 0) ∧
    (let b := NoticeBody.released o r
     b.kind = 3 ∧ b.arg.extractLsb' 27 3 = o ∧ b.arg.extractLsb' 23 4 = r.code ∧ b.arg.extractLsb' 0 23 = 0) ∧
    (NoticeBody.revoked o r).kind = 4 ∧ (NoticeBody.revoked o r).arg = (NoticeBody.released o r).arg ∧
    (let b := NoticeBody.reclaimed r
     b.kind = 5 ∧ b.arg.extractLsb' 26 4 = r.code ∧ b.arg.extractLsb' 0 26 = 0) ∧
    (NoticeBody.expired r).kind = 6 ∧ (NoticeBody.expired r).arg = (NoticeBody.reclaimed r).arg ∧
    (let b := NoticeBody.refuse why x
     b.kind = 7 ∧ b.arg.extractLsb' 26 4 = why.code ∧ b.arg.extractLsb' 10 16 = x ∧ b.arg.extractLsb' 0 10 = 0) ∧
    (let b := NoticeBody.welcome x k j
     b.kind = 8 ∧ b.arg.extractLsb' 14 16 = x ∧ b.arg.extractLsb' 8 6 = k ∧ b.arg.extractLsb' 4 4 = j ∧
      b.arg.extractLsb' 0 4 = 0) ∧
    (let b := NoticeBody.defer j y
     b.kind = 9 ∧ b.arg.extractLsb' 26 4 = j ∧ b.arg.extractLsb' 18 8 = y ∧ b.arg.extractLsb' 0 18 = 0) ∧
    (let b := NoticeBody.renewed x f
     b.kind = 10 ∧ b.arg.extractLsb' 14 16 = x ∧ b.arg.getLsbD 13 = f ∧ b.arg.extractLsb' 0 13 = 0) ∧
    (let b := NoticeBody.status st p c x f
     b.kind = 11 ∧ b.arg.extractLsb' 27 3 = st.code ∧ (b.arg.extractLsb' 21 6).toNat = p.val ∧
      (b.arg.extractLsb' 18 3).toNat = c.val ∧ b.arg.extractLsb' 2 16 = x ∧ b.arg.getLsbD 1 = f ∧
      b.arg.getLsbD 0 = false)) ∧
  [RefusalReason.badArgument, .outstanding, .quota, .noEntry, .noSpace, .deferFull, .displaced, .withdrawn, .waitExpired,
    .badHandle, .notHolder, .wrongState, .addressInUse, .barred].map RefusalReason.code =
      [1, 2, 3, 4, 5, 6, 7, 8, 9, 10, 11, 12, 13, 14] ∧
  crc16 [] = 0xFFFF ∧
  (∀ l b, crc16 (l ++ [b]) = if b ^^ (crc16 l).msb then (crc16 l <<< 1) ^^^ 0x1021 else crc16 l <<< 1)

/-- R16, R36: the sending of a GRANT in frame F gives its lease the start frame F + D and its incoming entries that
from-frame, and an ANNOUNCING lease is PENDING. `b` is the state after the reactions and the engine items taken
before the sending (notes/assumptions/4.md, 30.md). -/
def Obligations.GrantSentFixesStartFrame : Prop :=
  ∀ (first : List FrameStep) (j k : Nat) (s b : State) (q : QueuedNotice) (rest : List QueuedNotice) (i : LeaseIdx)
    (l : Lease) (start : Pos) (c : LenClass) (o : BitVec 3) (term : BitVec 16),
    s.quiet → s.frameFollows → State.StepsTaken first s.begun b → b.fg.phase = .inFrame →
    b.notices.dropWhile (QueuedNotice.runsOut s.newFrame) = q :: rest → q.copy = false →
    q.link = some i → q.notice.body = .grant start c o term → b.leaseAt i = some l →
    ∃ t, exec (.frameStart ⟨first, [], j, k⟩) s = .next t ∧
      (let effect := s.newFrame + s.settings.d.setWidth 16
       t.leaseAt i = some { l with
          startFrame := some effect, state := if l.state = .announcing then .pending else l.state } ∧
        (∀ p, t.slotAt p = (b.slotAt p).map fun x => match x.incoming with
          | some e => if e.lease = i then { x with incoming := some { e with fromFrame := some effect } } else x
          | none => x)) ∧
      (∀ j, j ≠ i → t.leases.get j = b.leases.get j) ∧ t.deferred = b.deferred ∧ t.worker = b.worker ∧
      t.engine = b.engine ∧ t.attention = b.attention

/-- R19, R10, R36: the sending of a linked RELEASED or REVOKED in frame F fixes the end frame, the earlier of F + D and
the one held by their offsets from the start frame, and writes the until; the old run of a SENT move keeps an earlier
effect frame. Whether the end frame held is the announced one is the model's record (notes/assumptions/10.md); an end
frame already come is written too (8.md); a move's effect frame is compared by the offset of its sending + D (R118;
31.md). `b` is the state after the reactions and the engine items taken before the sending (4.md,
30.md). -/
def Obligations.EndNoticeSentFixesEndFrame : Prop :=
  ∀ (first : List FrameStep) (j k : Nat) (s b : State) (q : QueuedNotice) (rest : List QueuedNotice) (i : LeaseIdx)
    (l : Lease) (st : Frame),
    s.quiet → s.frameFollows → State.StepsTaken first s.begun b → b.fg.phase = .inFrame →
    b.notices.dropWhile (QueuedNotice.runsOut s.newFrame) = q :: rest → q.copy = false →
    q.link = some i → q.notice.body.kind = 3 ∨ q.notice.body.kind = 4 → b.leaseAt i = some l →
    l.startFrame = some st →
    ∃ t, exec (.frameStart ⟨first, [], j, k⟩) s = .next t ∧
      (let now := s.newFrame
       let sentAt := (now - st).toNat + s.settings.d.toNat
       ∃ (e : Frame) (announced : Bool),
        (∀ e', l.endFrame = some e' → (e' - st).toNat < sentAt → e = e' ∧ announced = false) ∧
        (∀ e', l.endFrame = some e' → (e' - st).toNat = sentAt → e = e' ∧ announced = true) ∧
        (∀ e', l.endFrame = some e' → sentAt < (e' - st).toNat →
          e = now + s.settings.d.setWidth 16 ∧ announced = true) ∧
        (l.endFrame = none → e = now + s.settings.d.setWidth 16 ∧ announced = true) ∧
        t.leaseAt i = some { l with endFrame := some e, endAnnounced := announced } ∧
        (let u := if (e - now).toNat ≤ 32767 ∨ (e - st).toNat ≤ (now - st).toNat then some e else none
         let ou := match l.move with
          | some ⟨_, some m⟩ => if announced = true ∨ (m - s.settings.d.setWidth 16 - st).toNat + s.settings.d.toNat <
              (e - st).toNat then some m else u
          | _ => u
         ∀ p x, b.slotAt p = some x → ∃ y, t.slotAt p = some y ∧ y.owner = x.owner ∧ y.guardUntil = x.guardUntil ∧
          y.quarantine = x.quarantine ∧ y.ownerUntil = (if x.owner = some i then ou else x.ownerUntil) ∧
          y.incoming = x.incoming.map fun n => if n.lease = i then { n with untilFrame := u } else n)) ∧
      (∀ j, j ≠ i → t.leases.get j = b.leases.get j) ∧ t.deferred = b.deferred ∧ t.worker = b.worker ∧
      t.engine = b.engine ∧ t.attention = b.attention

/-- R103: the sending of a MOVE in frame F makes the move SENT with effect frame F + D. If the lease has no end frame
or a later one, its target takes F + D as from-frame and its old run as owner-until; otherwise the target is given up, and
deferred-reconsider set where one of its positions became FREE (R38, R39). Where the old run was vacated before, at the same
frame start and so before the sending, the lease is then retired EXPIRED with an EXPIRED notice, as a fully vacated lease is
(R20, R22, R99, R112, R149; notes/assumptions/9.md). An end frame already come is written too (8.md). Every other roster entry
and engine flag stays, the marks of R148 apart (12.md). `b` is the state after the reactions and the engine items taken before the
sending (4.md, 30.md). -/
def Obligations.MoveSentFixesEffectFrame : Prop :=
  ∀ (first : List FrameStep) (j k : Nat) (s b : State) (q : QueuedNotice) (rest : List QueuedNotice) (i : LeaseIdx)
    (l : Lease) (st target : Pos) (sf : Frame) (o : BitVec 3),
    s.quiet → s.frameFollows → State.StepsTaken first s.begun b → b.fg.phase = .inFrame →
    b.notices.dropWhile (QueuedNotice.runsOut s.newFrame) = q :: rest → q.copy = false →
    q.link = some i → q.notice.body = .move st o → b.leaseAt i = some l → l.startFrame = some sf →
    l.move = some ⟨target, none⟩ →
    ∃ t, exec (.frameStart ⟨first, [], j, k⟩) s = .next t ∧
      (let now := s.newFrame
       let effect := now + s.settings.d.setWidth 16
       let marked (e : RosterEntry) : RosterEntry := { e with reply := e.reply.map fun c => match c.effect with
        | some f => if (now - f).toNat < 32768 then { c with come := true } else c
        | none => c }
       let isSent := t.leases = b.leases.set i { b.leases.get i with
          lease := some { l with move := some ⟨target, some effect⟩ } } ∧
        t.worker = b.worker ∧ t.attention = b.attention ∧ t.notices = rest ∧ t.engine.stepReady = b.engine.stepReady ∧
        (∀ a, t.entry a = marked (b.entry a))
       ((∀ e, l.endFrame = some e → (now - sf).toNat + s.settings.d.toNat < (e - sf).toNat) →
          isSent ∧ t.engine = b.engine ∧
          (let u := match l.endFrame with
            | some e => if (e - now).toNat ≤ 32767 ∨ (e - sf).toNat ≤ (now - sf).toNat then some e else none
            | none => none
           ∀ p x, b.slotAt p = some x → ∃ y, t.slotAt p = some y ∧ y.owner = x.owner ∧ y.guardUntil = x.guardUntil ∧
            y.quarantine = x.quarantine ∧
            y.ownerUntil = (if x.owner = some i then some effect else x.ownerUntil) ∧
            y.incoming = x.incoming.map fun n => if n.lease = i then ⟨i, some effect, u⟩ else n)) ∧
        (∀ e, l.endFrame = some e → (e - sf).toNat ≤ (now - sf).toNat + s.settings.d.toNat →
          (let gone := ∀ p x, b.slotAt p = some x → x.owner ≠ some i
           let told : Bool := !(decide (l.state = .ending) && l.endAnnounced)
           (∀ p, t.slotAt p = (b.slotAt p).map fun x =>
            if (x.incoming.map Incoming.lease) = some i then { x with incoming := none } else x) ∧
          t.engine = { b.engine with reconsider := t.engine.reconsider, stepReady := t.engine.stepReady } ∧
          (t.engine.reconsider = true ↔ b.engine.reconsider = true ∨ gone ∨ ∃ p x y, b.slotAt p = some x ∧
            t.slotAt p = some y ∧ x.isFree = false ∧ y.isFree = true) ∧
          ((∃ p x, b.slotAt p = some x ∧ x.owner = some i) → isSent) ∧
          (gone →
            t.leases = b.leases.set i ⟨(b.leases.get i).generation + 1,
              some (if told then .expired else l.endReason.getD .expired), none⟩ ∧
            (b.worker.underMove = some (b.handleOf i) →
              t.worker = { b.worker with status := .active .step, scan := l.start.val + 1, underMove := none } ∧
                t.engine.stepReady = true) ∧
            (b.worker.underMove ≠ some (b.handleOf i) →
              t.worker = b.worker ∧ t.engine.stepReady = b.engine.stepReady) ∧
            (let kept := rest.filter fun r => decide (r.notice.handle ≠ some (b.handleOf i))
             (l.holder = none ∨ told = false → t.notices = kept ∧ t.attention = b.attention) ∧
             (∀ a, l.holder = some a → told = true →
              t.notices = (if kept.length < 16 then kept ++ [⟨⟨a, some (b.handleOf i), l.seqEcho, .expired .expired⟩, none,
                false, false, none, false⟩] else kept) ∧
              t.attention = (if kept.length < 16 then b.attention else b.attention ||| 0x080))) ∧
            (∀ a, l.holder ≠ some a → t.entry a = marked (b.entry a)) ∧
            (∀ a, l.holder = some a →
              let e : RosterEntry := { b.entry a with
                slotsHeld := (b.entry a).slotsHeld - 2 ^ l.cls.val, leasesHeld := (b.entry a).leasesHeld - 1 }
              let forgets := l.origin = .bus ∧ ∃ c, e.reply = some c ∧ c.notice.isGrant = true ∧
                c.notice.handle = some (b.handleOf i)
              (forgets → t.entry a = { e with reply := none, lastSeq := none }) ∧
                (¬ forgets → t.entry a = marked e)))))) ∧
      (∀ j, j ≠ i → t.leases.get j = b.leases.get j) ∧ t.deferred = b.deferred

/-! ### The reactions to a frame start -/

/-- R30, R34, R20, R22, R99: at a frame start every owner whose owner-until has come leaves its position under a guard
of one frame. The leases that lose their last position by it are retired in ascending order of index: with the decided
reason and no notice if a sent end notice named the end frame (notes/assumptions/10.md), and otherwise EXPIRED with an
EXPIRED notice, or NOTICE_DROP at a full queue. Each retirement withdraws the lease's notices, lowers the held counts,
clears a reply copy that is its GRANT (R149), tells the worker (R112) and sets deferred-reconsider; every other entry
is unchanged. -/
def Obligations.OwnersVacateAtTheirUntil : Prop :=
  ∀ s : State, s.due.vacate = true → ∃ t, exec .ownerUntilVacate s = .next t ∧
    (let leaves (x : Slot) : Bool := x.owner.isSome && (match x.ownerUntil with
        | some u => decide ((s.counter - u).toNat < 32768)
        | none => false)
     let gone := allLeases.filter fun i => (s.leaseAt i).isSome &&
      (s.slots.cells.any fun x => decide (x.owner = some i) && leaves x) &&
      (s.slots.cells.all fun x => (decide (x.owner ≠ some i) || leaves x) && decide (x.incoming.map Incoming.lease ≠ some i))
     let told (l : Lease) : Bool := !(decide (l.state = .ending) && l.endAnnounced)
     let retired (x : List QueuedNotice × BitVec 10) (i : LeaseIdx) : List QueuedNotice × BitVec 10 :=
      let kept := x.1.filter fun q => decide (q.notice.handle ≠ some (s.handleOf i))
      match s.leaseAt i with
      | none => x
      | some l => match l.holder with
        | none => (kept, x.2)
        | some a => if told l = false then (kept, x.2) else if kept.length < 16
            then (kept ++ [⟨⟨a, some (s.handleOf i), l.seqEcho, .expired .expired⟩, none, false, false, none, false⟩], x.2)
            else (kept, x.2 ||| 0x080)
     (∀ p, t.slotAt p = (s.slotAt p).map fun x =>
        if leaves x then { x with owner := none, ownerUntil := none, guardUntil := some (s.counter + 1) } else x) ∧
      (∀ i l, s.leaseAt i = some l → i ∈ gone →
        t.leases.get i = ⟨(s.leases.get i).generation + 1,
          some (if told l = false then l.endReason.getD .expired else .expired), none⟩) ∧
      (∀ i, i ∉ gone → t.leases.get i = s.leases.get i) ∧
      (t.notices, t.attention) = gone.foldl retired (s.notices, s.attention) ∧
      (∀ a, let mine := gone.filter fun i => s.heldBy a i
        let forgets := mine.any fun i => ((s.leaseAt i).any fun l => decide (l.origin = .bus)) &&
          ((s.entry a).reply.any fun c => c.notice.isGrant && decide (c.notice.handle = some (s.handleOf i)))
        t.entry a = { s.entry a with
          slotsHeld := (s.entry a).slotsHeld - (mine.map fun i => ((s.leaseAt i).map fun l => 2 ^ l.cls.val).getD 0).sum,
          leasesHeld := (s.entry a).leasesHeld - mine.length,
          reply := if forgets then none else (s.entry a).reply,
          lastSeq := if forgets then none else (s.entry a).lastSeq }) ∧
      t.engine = { s.engine with
        reconsider := s.engine.reconsider || !gone.isEmpty, stepReady := t.engine.stepReady } ∧
      (∀ i l, s.leaseAt i = some l → i ∈ gone → s.worker.underMove = some (s.handleOf i) →
        t.worker = { s.worker with status := .active .step, scan := l.start.val + 1, underMove := none } ∧
          t.engine.stepReady = true) ∧
      ((∀ i ∈ gone, s.worker.underMove ≠ some (s.handleOf i)) →
        t.worker = s.worker ∧ t.engine.stepReady = s.engine.stepReady)) ∧
    t.due = { s.due with vacate := false } ∧ t.fg = s.fg ∧ t.requests = s.requests ∧ t.deferred = s.deferred ∧
    t.turnPointer = s.turnPointer ∧ t.uplink = s.uplink ∧ t.credited = s.credited ∧ t.attnEn = s.attnEn ∧
    t.settings = s.settings ∧ t.port = s.port ∧ t.cmd = s.cmd

/-- R31, R39: after the vacates of the same frame start, every guard whose guard-until has come ends, and
deferred-reconsider is set if a position became FREE. -/
def Obligations.GuardsEndAtTheirUntil : Prop :=
  ∀ s : State, s.due.vacate = false → s.due.guardEnd = true → ∃ t, exec .guardEnd s = .next t ∧
    t = (((s.setDue { s.due with guardEnd := false }).setSlots t.slots).setEngine
      { s.engine with reconsider := t.engine.reconsider }) ∧
    (∀ p, t.slotAt p = (s.slotAt p).map fun x => match x.guardUntil with
      | some g => if (s.counter - g).toNat < 32768 then { x with guardUntil := none } else x
      | none => x) ∧
    (t.engine.reconsider = true ↔ s.engine.reconsider = true ∨ ∃ p x y, s.slotAt p = some x ∧ t.slotAt p = some y ∧
      x.isFree = false ∧ y.isFree = true)

/-- R32, R33, R17, R14: after the vacates and guards of the same frame start, every incoming entry whose from-frame has
come owns its position if that has no owner and no guard. A lease whose whole run is then live is ACTIVE with its
term's end frame (an ENDING one takes the earlier end), one whose whole move target is live runs there, and the
worker's move is counted (R111); with no arrival of the lease under its move, the worker and the engine stay as they are. The
incoming's until is carried across as owner-until; where the lease goes live, the
end frame it then holds is written instead (R10), also one that has already come. That the end frame is not the
announced one is the model's record (notes/assumptions/10.md). -/
def Obligations.IncomingEntriesGoLive : Prop :=
  ∀ s : State, s.due.vacate = false → s.due.guardEnd = false → s.due.goLive = true →
    ∃ t, exec .incomingGoLive s = .next t ∧
    (let enters (x : Slot) : Option LeaseIdx := match x.incoming with
        | some ⟨i, some f, _⟩ =>
          if (s.counter - f).toNat < 32768 ∧ x.owner = none ∧ x.guardUntil = none then some i else none
        | _ => none
     let gained (i : LeaseIdx) : Prop := ∃ p x, s.slotAt p = some x ∧ enters x = some i
     (∀ p x, s.slotAt p = some x → ∃ y, t.slotAt p = some y ∧ y.guardUntil = x.guardUntil ∧
        y.quarantine = x.quarantine ∧
        (∀ i, enters x = some i → y.owner = some i ∧ y.incoming = none) ∧
        (enters x = none → y.owner = x.owner ∧
          y.incoming.map (fun n => (n.lease, n.fromFrame)) = x.incoming.map (fun n => (n.lease, n.fromFrame)) ∧
          ∀ n, x.incoming = some n → ¬ gained n.lease → y.incoming = some n) ∧
        (y.owner = none → y.ownerUntil = x.ownerUntil)) ∧
      (∀ i, (t.leases.get i).generation = (s.leases.get i).generation ∧
        (t.leases.get i).lastReason = (s.leases.get i).lastReason) ∧
      (∀ i, ¬ gained i → t.leases.get i = s.leases.get i) ∧
      (∀ i l m, s.leaseAt i = some l → gained i → l.move = some m → t.ownsRun i m.target l.cls = true →
        t.leaseAt i = some ({ l with start := m.target, move := none } : Lease) ∧
          (s.worker.underMove = some (s.handleOf i) →
            t.worker = ⟨.active .step, m.target.val, none, min 255 (s.worker.moves + 1)⟩ ∧
              t.engine.stepReady = true)) ∧
      ((∀ i l m, s.leaseAt i = some l → gained i → l.move = some m → t.ownsRun i m.target l.cls = true →
          s.worker.underMove ≠ some (s.handleOf i)) →
        t.worker = s.worker ∧ t.engine.stepReady = s.engine.stepReady) ∧
      t.engine = { s.engine with stepReady := t.engine.stepReady } ∧
      (∀ i l m, s.leaseAt i = some l → gained i → l.move = some m → t.ownsRun i m.target l.cls = false →
        l.state = .active ∨ t.ownsRun i l.start l.cls = false → t.leaseAt i = some l) ∧
      (∀ i l, s.leaseAt i = some l → gained i → l.move = none → t.ownsRun i l.start l.cls = true →
        t.leaseAt i = some (match l.state with
          | .pending =>
            { l with state := .active, endFrame := if l.term = 65535 then none else l.startFrame.map (· + l.term) }
          | .ending => (match l.startFrame with
            | some st => if l.term = 65535 then l
              else match l.endFrame with
                | some e => if (e - st).toNat ≤ l.term.toNat then l
                  else { l with endFrame := some (st + l.term), endAnnounced := false }
                | none => { l with endFrame := some (st + l.term), endAnnounced := false }
            | none => l)
          | _ => l)) ∧
      (∀ i l, s.leaseAt i = some l → gained i → l.move = none → t.ownsRun i l.start l.cls = false →
        t.leaseAt i = some l) ∧
      (∀ p x y i, s.slotAt p = some x → t.slotAt p = some y → y.owner = some i →
        let carried := if enters x = some i then x.incoming.bind Incoming.untilFrame else x.ownerUntil
        (¬ gained i ∨ (∀ l, s.leaseAt i = some l → (l.move = none → t.ownsRun i l.start l.cls = false) ∧
            (∀ m, l.move = some m → t.ownsRun i m.target l.cls = true)) →
          y.ownerUntil = carried) ∧
        (∀ l l', s.leaseAt i = some l → gained i → l.move = none → t.ownsRun i l.start l.cls = true →
          t.leaseAt i = some l' →
          y.ownerUntil = (match l'.endFrame with
            | none => none
            | some e => if (e - s.counter).toNat ≤ 32767 ∨ (l.startFrame.any fun st =>
                decide ((e - st).toNat ≤ (s.counter - st).toNat)) = true then some e else none)))) ∧
    t.due = { s.due with goLive := false } ∧ t.fg = s.fg ∧ t.requests = s.requests ∧ t.deferred = s.deferred ∧
    t.roster = s.roster ∧ t.turnPointer = s.turnPointer ∧ t.uplink = s.uplink ∧ t.notices = s.notices ∧
    t.credited = s.credited ∧ t.attention = s.attention ∧ t.attnEn = s.attnEn ∧ t.settings = s.settings ∧
    t.port = s.port ∧ t.cmd = s.cmd

/-- R10: at the frame start at which a lease's end frame comes within 32767 frames, its positions take it as until; a
position of a lease with a SENT move keeps an earlier effect frame; every other until is unchanged. The two are
compared by the offset of the MOVE's sending + D, unreduced (R118; notes/assumptions/31.md). -/
def Obligations.UntilsAreWrittenInRange : Prop :=
  ∀ s : State, s.due.untils = true → ∃ t, exec .untilWriteInRange s = .next t ∧
    t = (s.setDue { s.due with untils := false }).setSlots t.slots ∧
    (let falls (i : LeaseIdx) : Option (Lease × Frame) := match s.leaseAt i with
        | some l => match l.endFrame with
          | some e => if (e - s.counter).toNat = 32767 then some (l, e) else none
          | none => none
        | none => none
     ∀ p x, s.slotAt p = some x → ∃ y, t.slotAt p = some y ∧ y.owner = x.owner ∧ y.guardUntil = x.guardUntil ∧
      y.quarantine = x.quarantine ∧
      (x.owner = none → y.ownerUntil = x.ownerUntil) ∧
      (∀ i, x.owner = some i → falls i = none → y.ownerUntil = x.ownerUntil) ∧
      (∀ i l e, x.owner = some i → falls i = some (l, e) → (∀ m, l.move = some m → m.effect = none) →
        y.ownerUntil = some e) ∧
      (∀ i l e m f st, x.owner = some i → falls i = some (l, e) → l.move = some ⟨m, some f⟩ →
        l.startFrame = some st → y.ownerUntil = some (if l.endAnnounced = true ∨
          (f - s.settings.d.setWidth 16 - st).toNat + s.settings.d.toNat < (e - st).toNat then f else e)) ∧
      y.incoming = x.incoming.map fun n => match falls n.lease with
        | some (_, e) => { n with untilFrame := some e }
        | none => n)

/-- R105, R107: at the frame start of its lease's end frame an UNSENT move is removed: its MOVE withdrawn, its target's
entries gone, and the worker told (R112). The lease keeps its old run while it holds it. One that holds no position is
retired, in ascending order of index (R20, R22, R99): EXPIRED with an EXPIRED notice, or NOTICE_DROP at a full queue;
its notices are withdrawn, the held counts lowered, a reply copy that is its GRANT cleared (R149), and
deferred-reconsider set, as it is where a position became FREE (R38, R39). Every other notice and entry stays. End
frames already come are taken with it, and a lease left no position is fully vacated (notes/assumptions/9.md). -/
def Obligations.UnsentMovesEndWithTheirLease : Prop :=
  ∀ s : State, s.due.moveEnds = true → ∃ t, exec .moveTermEndRemoval s = .next t ∧
    (let ends (i : LeaseIdx) : Bool := match s.leaseAt i with
        | some l => match l.move, l.startFrame, l.endFrame with
          | some ⟨_, none⟩, some st, some e => decide ((e - st).toNat ≤ (s.counter - st).toNat)
          | _, _, _ => false
        | none => false
     let gone (i : LeaseIdx) : Bool := ends i && s.slots.cells.all fun x => decide (x.owner ≠ some i)
     let told (l : Lease) : Bool := !(decide (l.state = .ending) && l.endAnnounced)
     let removed (x : List QueuedNotice × BitVec 10) (i : LeaseIdx) : List QueuedNotice × BitVec 10 :=
      let moveless := x.1.filter fun q => !(decide (q.link = some i) && q.notice.isMove)
      if gone i = false then (moveless, x.2) else
      let kept := moveless.filter fun q => decide (q.notice.handle ≠ some (s.handleOf i))
      match s.leaseAt i with
      | none => x
      | some l => match l.holder with
        | none => (kept, x.2)
        | some a => if told l = false then (kept, x.2) else if kept.length < 16
            then (kept ++ [⟨⟨a, some (s.handleOf i), l.seqEcho, .expired .expired⟩, none, false, false, none, false⟩], x.2)
            else (kept, x.2 ||| 0x080)
     (∀ p, t.slotAt p = (s.slotAt p).map fun x => match x.incoming with
        | some n => if ends n.lease then { x with incoming := none } else x
        | none => x) ∧
      (∀ i l, s.leaseAt i = some l → ends i = true → l.state = .active →
        ((∃ p x, s.slotAt p = some x ∧ x.owner = some i) → t.leaseAt i = some { l with move := none }) ∧
        ((∀ p x, s.slotAt p = some x → x.owner ≠ some i) →
          t.leases.get i = ⟨(s.leases.get i).generation + 1, some .expired, none⟩)) ∧
      (∀ i l, s.leaseAt i = some l → ends i = true → t.leases.get i = if gone i = true
        then ⟨(s.leases.get i).generation + 1, some (if told l = false then l.endReason.getD .expired else .expired), none⟩
        else { s.leases.get i with lease := some { l with move := none } }) ∧
      (∀ i, ends i = true → ∀ q ∈ t.notices, q.link = some i → q.notice.isMove = false) ∧
      (∀ i, ends i = false → t.leases.get i = s.leases.get i) ∧
      (t.notices, t.attention) = ((List.finRange 32).filter ends).foldl removed (s.notices, s.attention) ∧
      (∀ a, let mine := (List.finRange 32).filter fun i => gone i && s.heldBy a i
        let forgets := mine.any fun i => ((s.leaseAt i).any fun l => decide (l.origin = .bus)) &&
          ((s.entry a).reply.any fun c => c.notice.isGrant && decide (c.notice.handle = some (s.handleOf i)))
        t.entry a = { s.entry a with
          slotsHeld := (s.entry a).slotsHeld - (mine.map fun i => ((s.leaseAt i).map fun l => 2 ^ l.cls.val).getD 0).sum,
          leasesHeld := (s.entry a).leasesHeld - mine.length,
          reply := if forgets then none else (s.entry a).reply,
          lastSeq := if forgets then none else (s.entry a).lastSeq }) ∧
      t.engine = { s.engine with reconsider := t.engine.reconsider, stepReady := t.engine.stepReady } ∧
      (t.engine.reconsider = true ↔ s.engine.reconsider = true ∨ (∃ i, gone i = true) ∨
        ∃ p x y, s.slotAt p = some x ∧ t.slotAt p = some y ∧ x.isFree = false ∧ y.isFree = true) ∧
      (∀ i l, s.leaseAt i = some l → ends i = true → s.worker.underMove = some (s.handleOf i) →
        t.worker = { s.worker with status := .active .step, scan := l.start.val + 1, underMove := none } ∧
          t.engine.stepReady = true) ∧
      ((∀ i, ends i = true → s.worker.underMove ≠ some (s.handleOf i)) →
        t.worker = s.worker ∧ t.engine.stepReady = s.engine.stepReady)) ∧
    t.due = { s.due with moveEnds := false } ∧ t.fg = s.fg ∧ t.requests = s.requests ∧ t.deferred = s.deferred ∧
    t.turnPointer = s.turnPointer ∧ t.uplink = s.uplink ∧ t.credited = s.credited ∧ t.attnEn = s.attnEn ∧
    t.settings = s.settings ∧ t.port = s.port ∧ t.cmd = s.cmd

/-- R85, R165: at a frame start every deferred entry whose wait-until has come is removed, and a REFUSE WAIT_EXPIRED to
its sender joins the notice queue in list order; one that finds the queue full is dropped with NOTICE_DROP. -/
def Obligations.WaitsExpireInListOrder : Prop :=
  ∀ s : State, s.due.waits = true →
    let lapsed (d : Deferred) : Bool := decide ((s.counter - d.waitUntil).toNat < 32768)
    let told := (s.deferred.filter lapsed).map fun d =>
      (⟨⟨d.sender, none, d.seq, .refuse .waitExpired 0⟩, none, false, false, none, false⟩ : QueuedNotice)
    exec .waitExpiry s = .next ((((s.setDue { s.due with waits := false }).setDeferred
      (s.deferred.filter fun d => !lapsed d)).setNotices (s.notices ++ told.take (16 - s.notices.length))).setAttention
        (if told.length ≤ 16 - s.notices.length then s.attention else s.attention ||| 0x080))

/-! ### The uplink -/

/-- R136, R137, R139: the outcome of an owned turn. A missed turn of an owner that speaks raises its count; at 2M it is
LEAVING with its holder-retirement flag, at M a PRESENT one is SILENT with ROSTER; a KEEP of the owner answers: count
0, PRESENT, ROSTER if it was SILENT. The limit is applied by its own row (notes/assumptions/5.md); where none was reached the
row changes nothing (1.md). Every message of an owner that is ABSENT, LEAVING or BARRED is discarded, a RENEW of 0
frames among them (13.md). -/
def Obligations.TurnOutcomesAreApplied : Prop :=
  (∀ (s : State) (a : Trib),
    (s.due.missed = some (a, .silent) → exec .missedTurnLimit s = .next (((s.setDue { s.due with missed := none }).setRoster
      (s.roster.set a { s.entry a with state := .silent })).flagSet 0x004)) ∧
    (s.due.missed = some (a, .leaving) → exec .missedTurnLimit s = .next (((s.setDue { s.due with missed := none }).setRoster
      (s.roster.set a { s.entry a with state := .leaving })).setEngine
        { s.engine with retireFlags := s.engine.retireFlags.set a true })) ∧
    (s.due.missed = none → exec .missedTurnLimit s = .next s)) ∧
  ∀ (bits : BitVec 64) (s : State) (a : Trib),
    s.quiet → s.fg.phase = .inFrame → s.uplink.received = none → s.uplink.turn = some (.owner a) →
    let m := parseUplink bits
    let base := s.setUplink { s.uplink with received := some bits }
    let e := s.entry a
    (s.speaks a = false → m.good = true → m.sender = Trib.wire a → exec (.uplinkArrival bits) s = .next base) ∧
    (s.speaks a = false → m.good = false ∨ m.sender ≠ Trib.wire a → exec (.uplinkArrival bits) s = .next base) ∧
    (s.speaks a = true → m.good = true → m.sender = Trib.wire a → m.kind = 1 ∨ m.kind = 2 ∨ m.kind = 0 ∨ 9 ≤ m.kind.toNat →
      exec (.uplinkArrival bits) s = .next ((base.setRoster (s.roster.set a
        { e with missed := 0, state := .present })).setAttention
          (if e.state = .silent then s.attention ||| 0x004 else s.attention))) ∧
    (s.speaks a = true → m.good = false ∨ m.sender ≠ Trib.wire a →
      ∃ u v, exec (.uplinkArrival bits) s = .next u ∧ exec .missedTurnLimit u = .next v ∧
        u = (base.setRoster (s.roster.set a { e with missed := e.missed + 1 })).setDue u.due ∧
        (2 * s.settings.m.toNat ≤ e.missed + 1 →
          v = (base.setRoster (s.roster.set a { e with missed := e.missed + 1, state := .leaving })).setEngine
            { s.engine with retireFlags := s.engine.retireFlags.set a true }) ∧
        (e.missed + 1 < 2 * s.settings.m.toNat → s.settings.m.toNat ≤ e.missed + 1 → e.state = .present →
          v = (base.setRoster (s.roster.set a { e with missed := e.missed + 1, state := .silent })).flagSet 0x004) ∧
        (e.missed + 1 < 2 * s.settings.m.toNat → e.missed + 1 < s.settings.m.toNat ∨ e.state = .silent →
          u.due = Due.nothing ∧ v = u))

/-- R161, R136: an arrival in an OPEN turn that is no good JOIN from an address changes nothing but the bits received;
the arrival is taken once in a frame, and in no other time (notes/assumptions/1.md). The layout of the 64 bits, their
check, and the kinds with their arguments (R153, R154, R156, R158). -/
def Obligations.OpenTurnDiscardsOtherArrivals : Prop :=
  (∀ (bits : BitVec 64) (s : State), s.quiet →
    (s.fg.phase = .inFrame → s.uplink.received = none → s.uplink.turn = some .anyone →
      (parseUplink bits).good = false ∨ (parseUplink bits).kind ≠ 2 ∨ (parseUplink bits).sender = 0 ∨
        (parseUplink bits).sender = 31 ∨ (parseUplink bits).arg.extractLsb' 14 16 = 0 →
      exec (.uplinkArrival bits) s = .next (s.setUplink { s.uplink with received := some bits })) ∧
    (s.fg.phase ≠ .inFrame ∨ s.uplink.received ≠ none → exec (.uplinkArrival bits) s = .next s)) ∧
  ∀ x : BitVec 64, let m := parseUplink x
    m.kind = x.extractLsb' 60 4 ∧ m.sender = x.extractLsb' 55 5 ∧ m.seq = x.getLsbD 54 ∧
    m.handle.index.val = (x.extractLsb' 49 5).toNat ∧ m.handle.generation = x.extractLsb' 46 3 ∧
    m.arg = x.extractLsb' 16 30 ∧
    (m.good = true ↔ crc16 ((List.range 48).map x.getMsbD) = x.extractLsb' 0 16) ∧
    (m.kind = 0 ∨ 9 ≤ m.kind.toNat → m.sort = .unknown) ∧
    (m.kind = 1 → m.sort = .keep) ∧
    (m.kind = 2 → m.sort = .join (m.arg.extractLsb' 14 16)) ∧
    (m.kind = 3 → m.sort = .engine (.request ⟨m.arg.extractLsb' 27 3, m.arg.extractLsb' 25 2, m.arg.extractLsb' 9 16,
      m.arg.getLsbD 8, m.arg.extractLsb' 2 6⟩)) ∧
    (m.kind = 4 → m.sort = .engine .withdraw) ∧
    (m.kind = 5 → m.sort = .engine (.renew m.handle (m.arg.extractLsb' 14 16))) ∧
    (m.kind = 6 → m.sort = .engine (.release m.handle)) ∧
    (m.kind = 7 → m.sort = .engine (.query m.handle)) ∧
    (m.kind = 8 → m.sort = .engine .leave)

/-- R140 to R143: a good JOIN in an OPEN turn, by the state of the entry at the desired address and its identity; a
WELCOME needs room in the notice queue, and a refusal that finds none is dropped with NOTICE_DROP. -/
def Obligations.JoinsAreTakenByEntryState : Prop :=
  ∀ (bits : BitVec 64) (s : State) (a : Trib) (identity : BitVec 16),
    s.quiet → s.fg.phase = .inFrame → s.uplink.received = none → s.uplink.turn = some .anyone →
    (parseUplink bits).good = true → (parseUplink bits).kind = 2 → (parseUplink bits).sender = Trib.wire a →
    (parseUplink bits).arg.extractLsb' 14 16 = identity → identity ≠ 0 →
    let base := s.setUplink { s.uplink with received := some bits }
    let e := s.entry a
    let seq := (parseUplink bits).seq
    let joinable := e.state = .absent ∨ ((e.state = .present ∨ e.state = .silent) ∧ e.identity = some identity)
    (joinable → s.notices.length < 16 → exec (.uplinkArrival bits) s =
      .next (((base.setRoster (s.roster.set a { e with
        state := .present, identity := some identity, missed := 0, lastSeq := none, reply := none })).setNotices
          (s.notices ++ [⟨⟨a, none, seq, .welcome identity (BitVec.ofNat 6 e.slotQuota) (BitVec.ofNat 4 e.leaseQuota)⟩,
            none, false, false, none, false⟩])).setAttention
              (if e.state = .present then s.attention else s.attention ||| 0x004))) ∧
    (joinable → 16 ≤ s.notices.length → exec (.uplinkArrival bits) s = .next base) ∧
    (¬ joinable →
      (let told : QueuedNotice := ⟨⟨a, none, seq, .refuse (if e.state = .barred then .barred else .addressInUse) identity⟩,
        none, false, false, none, false⟩
       (s.notices.length < 16 → exec (.uplinkArrival bits) s = .next (base.setNotices (s.notices ++ [told]))) ∧
        (16 ≤ s.notices.length → exec (.uplinkArrival bits) s = .next (base.flagSet 0x080))))

/-- R145, R146, R162, R163: the steps of a message of the turn's owner to the lease engine, once the turn is answered.
The seq that a LEAVE's entry holds is the bit received (notes/assumptions/29.md). -/
def Obligations.OwnersMessagesAreQueuedOnce : Prop :=
  ∀ (bits : BitVec 64) (s : State) (a : Trib) (msg : Message),
    s.quiet → s.fg.phase = .inFrame → s.uplink.received = none → s.uplink.turn = some (.owner a) →
    (parseUplink bits).good = true → (parseUplink bits).sender = Trib.wire a → s.speaks a = true →
    (parseUplink bits).sort = .engine msg →
    let seq := (parseUplink bits).seq
    let e : RosterEntry := { s.entry a with missed := 0, state := .present }
    let base := ((s.setUplink { s.uplink with received := some bits }).setRoster (s.roster.set a e)).setAttention
      (if (s.entry a).state = .silent then s.attention ||| 0x004 else s.attention)
    let sequenced := msg ≠ .leave
    let refused := ∃ h, msg = .renew h 0
    let queued := s.requests.any fun r => decide (r.sender = a)
    (∀ h, msg = .renew h 0 → s.notices.length < 16 → exec (.uplinkArrival bits) s = .next (base.setNotices
      (s.notices ++ [⟨⟨a, some h, seq, .refuse .badArgument 0⟩, none, false, false, none, false⟩]))) ∧
    (refused → 16 ≤ s.notices.length → exec (.uplinkArrival bits) s = .next (base.flagSet 0x080)) ∧
    (¬ refused → s.uplink.uplinkOpen ≠ some true → exec (.uplinkArrival bits) s = .next base) ∧
    (¬ refused → s.uplink.uplinkOpen = some true → sequenced → e.lastSeq = some seq →
      (e.reply = none → exec (.uplinkArrival bits) s = .next base) ∧
      (∀ c, e.reply = some c → s.notices.length < 16 → exec (.uplinkArrival bits) s = .next (base.setNotices
        (s.notices ++ [⟨c.notice, none, false, true, c.effect, c.come⟩]))) ∧
      (∀ c, e.reply = some c → 16 ≤ s.notices.length → exec (.uplinkArrival bits) s = .next (base.flagSet 0x080))) ∧
    (¬ refused → s.uplink.uplinkOpen = some true → ¬ sequenced ∨ e.lastSeq ≠ some seq → queued = true →
      exec (.uplinkArrival bits) s = .next base) ∧
    (¬ refused → s.uplink.uplinkOpen = some true → ¬ sequenced ∨ e.lastSeq ≠ some seq → queued = false →
      exec (.uplinkArrival bits) s = .next ((base.setRoster (s.roster.set a
        (if sequenced then { e with lastSeq := some seq, reply := none } else e))).setRequests
          (s.requests ++ [⟨a, msg, seq, s.counter⟩])))

/-! ### Claims -/

/-- R172 to R174, R44: the sample of a position in a frame in progress. With no frame in progress the row changes nothing;
of a running generator between its frames that is the model's choice (notes/assumptions/1.md). -/
def Obligations.ClaimsAreJudgedByPosition : Prop :=
  ∀ (p : Fin 64) (s : State), s.quiet →
    (s.fg.phase ≠ .inFrame → ∀ claim, exec (.claimSample p claim) s = .next s) ∧
    exec (.claimSample p false) s = .next s ∧
    (s.fg.phase = .inFrame →
      (p.val < 6 → exec (.claimSample p true) s = .next (s.flagSet 0x010)) ∧
      (6 ≤ p.val → p.val < 10 → exec (.claimSample p true) s = .next s) ∧
      (∀ x, s.slotAt p.val = some x →
        (x.owner = none → ∃ t, exec (.claimSample p true) s = .next t ∧
          t = (s.setSlots t.slots).setAttention (if x.quarantine then s.attention else s.attention ||| 0x008) ∧
          t.slotAt p.val = some { x with quarantine := true } ∧
          (∀ q, q ≠ p.val → t.slotAt q = s.slotAt q)) ∧
        (∀ i l, x.owner = some i → s.leaseAt i = some l → l.holder = none →
          exec (.claimSample p true) s = .next s) ∧
        (∀ i l a, x.owner = some i → s.leaseAt i = some l → l.holder = some a →
          exec (.claimSample p true) s = .next (s.setCredited (s.credited.set i true)))))

/-- R176 to R180: the verdict brings the use fields of every judged lease up to date, decides the leases to reclaim in
ascending order of index, empties the credited set and ends the frame (notes/assumptions/5.md). -/
def Obligations.FrameCloseJudgesLeases : Prop :=
  ∀ s : State, s.quiet → s.fg.phase = .inFrame → ∃ t, exec .frameClose s = .next t ∧
    t = (((s.setLeases t.leases).setDue { s.due with reclaims := t.due.reclaims }).setCredited t.credited).setFg
      { s.fg with phase := .between } ∧
    (∀ i : LeaseIdx, t.credited.get i = false) ∧
    (let judges (l : Lease) : Bool := decide (l.state = .active) && l.holder.isSome
     (∀ i, t.leases.get i = match (s.leases.get i).lease with
        | some l => if judges l then { s.leases.get i with lease := some (if s.credited.get i
            then { l with takenUp := true, idle := 0 } else { l with idle := min 255 (l.idle + 1) }) } else s.leases.get i
        | none => s.leases.get i) ∧
      (t.due.reclaims.Pairwise fun x y => x.1 < y.1) ∧
      (∀ i r, (i, r) ∈ t.due.reclaims ↔ ∃ l, t.leaseAt i = some l ∧ judges l = true ∧
        ((r = .notTakenUp ∧ l.takenUp = false ∧ ∃ st, l.startFrame = some st ∧
            s.settings.u.toNat ≤ (s.counter - st).toNat + 1) ∨
          (r = .idle ∧ l.takenUp = true ∧ s.settings.idleLimit ≠ 0 ∧ s.settings.idleLimit.toNat ≤ l.idle))))

/-- R100, R178 to R180, R22, R37: a reclaim retires its lease at once: the entry freed with its reason and its
generation advanced, its positions under a guard to the counter + 2, its notices withdrawn, the held counts lowered, a reply
copy that is its GRANT cleared (R149), the worker told (R112), deferred-reconsider set, and RECLAIMED queued if there is room;
nothing else changes. Each row makes the next reclaim decided for its reason, and those of lower index before it: one of the
other reason that stands first is made as by its own row (notes/assumptions/5.md). With none decided for its reason a
row changes nothing (1.md). -/
def Obligations.ReclaimsRetireAtOnce : Prop :=
  (∀ s : State,
    ((∀ x ∈ s.due.reclaims, x.2 ≠ .notTakenUp) → exec .notTakenUpReclaim s = .next s) ∧
      ((∀ x ∈ s.due.reclaims, x.2 ≠ .idle) → exec .idleReclaim s = .next s)) ∧
  (∀ (s : State) (i : LeaseIdx) (rest : List (LeaseIdx × EndReason)),
    (s.due.reclaims = (i, .idle) :: rest → (∃ x ∈ rest, x.2 = .notTakenUp) →
      ∃ u, exec .idleReclaim s = .next u ∧ u.due.reclaims = rest ∧ exec .notTakenUpReclaim s = exec .notTakenUpReclaim u) ∧
    (s.due.reclaims = (i, .notTakenUp) :: rest → (∃ x ∈ rest, x.2 = .idle) →
      ∃ u, exec .notTakenUpReclaim s = .next u ∧ u.due.reclaims = rest ∧ exec .idleReclaim s = exec .idleReclaim u)) ∧
  ∀ (s : State) (i : LeaseIdx) (l : Lease) (a : Trib) (r : EndReason) (rest : List (LeaseIdx × EndReason)) (c : Instr),
    s.due.reclaims = (i, r) :: rest → s.leaseAt i = some l → l.holder = some a →
    (r = .notTakenUp ∧ c = .notTakenUpReclaim) ∨ (r = .idle ∧ c = .idleReclaim) →
    ∃ t, exec c s = .next t ∧ t.due = { s.due with reclaims := rest } ∧
      t.leases = s.leases.set i ⟨(s.leases.get i).generation + 1, some r, none⟩ ∧
      (∀ p, t.slotAt p = (s.slotAt p).map fun x =>
        let y : Slot := if x.owner = some i
          then { x with owner := none, ownerUntil := none, guardUntil := some (s.counter + 2) } else x
        if x.incoming.map Incoming.lease = some i then { y with incoming := none } else y) ∧
      (let kept := s.notices.filter fun q => decide (q.notice.handle ≠ some (s.handleOf i))
       let told : QueuedNotice := ⟨⟨a, some (s.handleOf i), l.seqEcho, .reclaimed r⟩, none, false, false, none, false⟩
       t.notices = (if kept.length < 16 then kept ++ [told] else kept) ∧
        t.attention = (if kept.length < 16 then s.attention else s.attention ||| 0x080)) ∧
      (let e : RosterEntry := { s.entry a with
         slotsHeld := (s.entry a).slotsHeld - 2 ^ l.cls.val, leasesHeld := (s.entry a).leasesHeld - 1 }
       let forgets := l.origin = .bus ∧ ∃ c, e.reply = some c ∧ c.notice.isGrant = true ∧
        c.notice.handle = some (s.handleOf i)
       (forgets → t.roster = s.roster.set a { e with reply := none, lastSeq := none }) ∧
        (¬ forgets → t.roster = s.roster.set a e)) ∧
      t.engine = { s.engine with reconsider := true, stepReady := t.engine.stepReady } ∧
      (s.worker.underMove = some (s.handleOf i) →
        t.worker = { s.worker with status := .active .step, scan := l.start.val + 1, underMove := none } ∧
          t.engine.stepReady = true) ∧
      (s.worker.underMove ≠ some (s.handleOf i) → t.worker = s.worker ∧ t.engine.stepReady = s.engine.stepReady) ∧
      t.fg = s.fg ∧ t.requests = s.requests ∧ t.deferred = s.deferred ∧ t.turnPointer = s.turnPointer ∧
      t.uplink = s.uplink ∧ t.credited = s.credited ∧ t.attnEn = s.attnEn ∧ t.settings = s.settings ∧ t.cmd = s.cmd ∧
      t.port = s.port

/-! ### The arbiter -/

/-- R51, R52, R53: the arbiter's choice in each rotation, and the order of internal work. Bus and Management are ready
only with at most 13 notices queued; a holder retirement, for the lowest flagged address, always. -/
def Obligations.ArbiterServesInRotation : Prop :=
  ∀ s : State,
    let reserve := s.notices.length ≤ 13
    let bus : Option Work := if reserve then s.requests.head?.map .bus else none
    let command : Option Work := if s.cmd.state = .accepted ∧ reserve then some .command else none
    (s.engine.lastServed = .internal → s.nextWork = bus.or (command.or s.internalWork)) ∧
    (s.engine.lastServed = .bus → s.nextWork = command.or (s.internalWork.or bus)) ∧
    (s.engine.lastServed = .management → s.nextWork = s.internalWork.or (bus.or command)) ∧
    (∀ a : Trib, s.engine.retireFlags.get a = true → (∀ b, b < a → s.engine.retireFlags.get b = false) →
      s.internalWork = some (.retirement a)) ∧
    ((∀ a : Trib, s.engine.retireFlags.get a = false) →
      s.internalWork = if s.engine.stepReady = true ∧ reserve then some .compaction
        else if s.engine.reconsider = true ∧ reserve then some .reconsider else none)

/-- R51, R58, R53, R197: the row of an engine item acts only on its own work, handed out by the arbiter; otherwise it
changes nothing (notes/assumptions/1.md). A message whose sender does not speak is discarded. -/
def Obligations.ItemRowsActOnTheirWork : Prop :=
  (∀ (c : Instr) (s : State), s.heard → isItemRow c = true → s.nextWork.map s.rowOfWork ≠ some c →
    exec c s = .next s) ∧
  (∀ (s : State) (r : Request), s.heard → s.nextWork = some (.bus r) → s.speaks r.sender = false →
    exec (rowOfMessage r.message) s = .next s.headTaken)

/-- R1, R27, R40, R41: which runs are wholly FREE, which run a placement search gives, and which entry a lease takes.
-/
def Obligations.PlacementTakesLowestFreeRun : Prop :=
  ∀ s : State,
    (∀ (c : LenClass) (p : Pos), s.runFree c p = true ↔
      10 ≤ p.val ∧ p.val % 2 ^ c.val = 0 ∧ p.val + 2 ^ c.val ≤ 64 ∧
        ∀ q, p.val ≤ q → q < p.val + 2 ^ c.val → s.slotAt q = some ⟨none, none, none, none, false⟩ ∨
          ∃ u, s.slotAt q = some ⟨none, some u, none, none, false⟩) ∧
    (∀ (c : LenClass) (w : BitVec 6), w ≠ 0 → s.runFree c (posOf w) = true → s.placement c w = some (posOf w)) ∧
    (∀ (c : LenClass) (w : BitVec 6) (p : Pos), w = 0 ∨ s.runFree c (posOf w) = false →
      (s.placement c w = some p ↔ s.runFree c p = true ∧ ∀ q, q < p → s.runFree c q = false)) ∧
    (∀ (c : LenClass) (w : BitVec 6), s.placement c w = none ↔ ∀ p, s.runFree c p = false) ∧
    (∀ i : LeaseIdx, s.freeEntry = some i ↔ s.leaseAt i = none ∧ ∀ j, j < i → (s.leaseAt j).isSome = true) ∧
    (s.freeEntry = none ↔ ∀ i, (s.leaseAt i).isSome = true)

/-! ### Messages -/

/-- R59 to R63, R65: the first admission check that stops a REQUEST decides its REFUSE, the answer and reply copy;
NO_ENTRY and NO_SPACE raise TABLE_FULL. -/
def Obligations.RequestsAreRefusedInOrder : Prop :=
  ∀ (s : State) (r : Request) (a : RequestArgs), s.messageWaits r → r.message = .request a →
    let no (why : RefusalReason) : State := s.headTaken.answered none ⟨r.sender, none, r.seq, .refuse why 0⟩
    let waiting := s.deferred.any fun d => decide (d.sender = r.sender)
    let e := s.entry r.sender
    let fits := e.slotsHeld + 2 ^ a.cls.toNat ≤ e.slotQuota ∧ e.leasesHeld + 1 ≤ e.leaseQuota
    (waiting = true → exec .request s = .next (no .outstanding)) ∧
    (waiting = false → 5 ≤ a.cls.toNat ∨ a.term = 0 → exec .request s = .next (no .badArgument)) ∧
    (waiting = false → a.cls.toNat < 5 → a.term ≠ 0 → ¬ fits → exec .request s = .next (no .quota)) ∧
    (waiting = false → a.cls.toNat < 5 → a.term ≠ 0 → fits → a.defer = false → s.freeEntry = none →
      exec .request s = .next ((no .noEntry).flagSet 0x040)) ∧
    (∀ c : LenClass, waiting = false → c.val = a.cls.toNat → a.term ≠ 0 → fits → a.defer = false →
      s.freeEntry ≠ none → s.placement c a.preferred = none →
      s.settings.preemptEn = false ∨ s.candidates r a.priority c = [] →
      exec .request s = .next ((no .noSpace).flagSet 0x040))

/-- R64, R15, R7, R147: a REQUEST that passes every check and is placed: an ANNOUNCING lease of origin BUS in the
lowest FREE entry, incoming entries on its run, held counts, and a linked GRANT that is the answer and reply copy. -/
def Obligations.RequestIsGranted : Prop :=
  ∀ (s : State) (r : Request) (a : RequestArgs) (c : LenClass) (i : LeaseIdx) (start : Pos),
    s.messageWaits r → r.message = .request a → (∀ d ∈ s.deferred, d.sender ≠ r.sender) → c.val = a.cls.toNat →
    a.term ≠ 0 → (s.entry r.sender).slotsHeld + 2 ^ c.val ≤ (s.entry r.sender).slotQuota →
    (s.entry r.sender).leasesHeld + 1 ≤ (s.entry r.sender).leaseQuota → s.freeEntry = some i →
    s.placement c a.preferred = some start →
    let term := if a.term.toNat ≤ s.settings.maxTerm.toNat then a.term else s.settings.maxTerm
    let n : Notice := ⟨r.sender, some ⟨i, (s.leases.get i).generation⟩, r.seq, .grant start c 0 term⟩
    ∃ t, exec .request s = .next t ∧
      t = (((s.headTaken.setLeases (s.leases.set i ⟨(s.leases.get i).generation, none,
        some ⟨.announcing, some r.sender, .bus, start, c, a.priority, term, none, none, none, r.seq, false, 0, none,
          false⟩⟩)).setSlots t.slots).setRoster (s.roster.set r.sender { s.entry r.sender with
            slotsHeld := (s.entry r.sender).slotsHeld + 2 ^ c.val, leasesHeld := (s.entry r.sender).leasesHeld + 1,
            reply := some ⟨n, none, false⟩ })).setNotices (s.notices ++ [⟨n, some i, true, false, none, false⟩]) ∧
      (∀ p, t.slotAt p = (s.slotAt p).map fun x =>
        if start.val ≤ p ∧ p < start.val + 2 ^ c.val then { x with incoming := some ⟨i, none, none⟩ } else x)

/-- R66 to R68: with PREEMPT_EN set and no run FREE, the victim is the candidate of lowest priority, then shortest run,
then highest index. It is ENDING with a linked REVOKED, and the newcomer is granted the first positions of its run, its
GRANT behind the REVOKED. -/
def Obligations.PreemptionTakesTheVictimsRun : Prop :=
  ∀ (s : State) (r : Request) (a : RequestArgs) (c : LenClass) (i v : LeaseIdx) (l : Lease) (b : Trib),
    s.messageWaits r → r.message = .request a → (∀ d ∈ s.deferred, d.sender ≠ r.sender) → c.val = a.cls.toNat →
    a.term ≠ 0 → (s.entry r.sender).slotsHeld + 2 ^ c.val ≤ (s.entry r.sender).slotQuota →
    (s.entry r.sender).leasesHeld + 1 ≤ (s.entry r.sender).leaseQuota → s.freeEntry = some i →
    s.placement c a.preferred = none → s.settings.preemptEn = true →
    (let candidate (j : LeaseIdx) (k : Lease) : Prop := s.leaseAt j = some k ∧ k.state = .active ∧ k.origin ≠ .pin ∧
        k.holder ≠ some r.sender ∧ k.priority < a.priority ∧ k.move = none ∧ c ≤ k.cls ∧
        ∀ x ∈ s.runSlots k.start c, x.quarantine = false
     candidate v l ∧ ∀ j k, candidate j k → l.priority < k.priority ∨
        (l.priority = k.priority ∧ (l.cls < k.cls ∨ (l.cls = k.cls ∧ j ≤ v)))) →
    l.holder = some b →
    let term := if a.term.toNat ≤ s.settings.maxTerm.toNat then a.term else s.settings.maxTerm
    let n : Notice := ⟨r.sender, some ⟨i, (s.leases.get i).generation⟩, r.seq, .grant l.start c 0 term⟩
    let told : Notice := ⟨b, some ⟨v, (s.leases.get v).generation⟩, l.seqEcho, .revoked 0 .preempted⟩
    ∃ t, exec .request s = .next t ∧
      t = (((s.headTaken.setLeases ((s.leases.set v { s.leases.get v with
          lease := some { l with state := .ending, endReason := some .preempted } }).set i
          ⟨(s.leases.get i).generation, none, some ⟨.announcing, some r.sender, .bus, l.start, c, a.priority, term, none,
            none, none, r.seq, false, 0, none, false⟩⟩)).setSlots t.slots).setRoster
        (s.roster.set r.sender { s.entry r.sender with
          slotsHeld := (s.entry r.sender).slotsHeld + 2 ^ c.val, leasesHeld := (s.entry r.sender).leasesHeld + 1,
          reply := some ⟨n, none, false⟩ })).setNotices
        (s.notices ++ [⟨told, some v, false, false, none, false⟩, ⟨n, some i, true, false, none, false⟩]) ∧
      (∀ p, t.slotAt p = (s.slotAt p).map fun x =>
        if l.start.val ≤ p ∧ p < l.start.val + 2 ^ c.val then { x with incoming := some ⟨i, none, none⟩ } else x)

/-- R62, R63, R76 to R78: a REQUEST with its defer flag set that lacks an entry or a run joins the deferred list after
every entry of equal or higher priority, with DEFER as its answer; at a full list it displaces a tail of lower
priority, and is refused DEFER_FULL otherwise. -/
def Obligations.RequestsAreDeferredInRank : Prop :=
  ∀ (s : State) (r : Request) (a : RequestArgs) (c : LenClass),
    s.messageWaits r → r.message = .request a → (∀ d ∈ s.deferred, d.sender ≠ r.sender) → c.val = a.cls.toNat →
    a.term ≠ 0 → (s.entry r.sender).slotsHeld + 2 ^ c.val ≤ (s.entry r.sender).slotQuota →
    (s.entry r.sender).leasesHeld + 1 ≤ (s.entry r.sender).leaseQuota → a.defer = true →
    s.freeEntry = none ∨ (s.placement c a.preferred = none ∧
      (s.settings.preemptEn = false ∨ s.candidates r a.priority c = [])) →
    let d : Deferred := ⟨r.sender, r.seq, c, a.priority, a.term, if a.preferred = 0 then none else some a.preferred,
      r.arrival, s.counter + s.settings.waitLimit.setWidth 16⟩
    (∀ above below, s.deferred = above ++ below → s.deferred.length < 8 → (∀ x ∈ above, a.priority ≤ x.priority) →
      (∀ x ∈ below.head?, x.priority < a.priority) →
      exec .request s = .next ((s.headTaken.setDeferred (above ++ d :: below)).answered none
        ⟨r.sender, none, r.seq, .defer (BitVec.ofNat 4 (above.length + 1)) s.settings.waitLimit⟩)) ∧
    (∀ above below tail, s.deferred = above ++ below ++ [tail] → 8 ≤ s.deferred.length → tail.priority < a.priority →
      (∀ x ∈ above, a.priority ≤ x.priority) → (∀ x ∈ below.head?, x.priority < a.priority) →
      exec .request s = .next (((s.headTaken.setDeferred (above ++ d :: below)).setNotices
        (s.notices ++ [⟨⟨tail.sender, none, tail.seq, .refuse .displaced 0⟩, none, false, false, none, false⟩])).answered
          none ⟨r.sender, none, r.seq, .defer (BitVec.ofNat 4 (above.length + 1)) s.settings.waitLimit⟩)) ∧
    (∀ tail, s.deferred.getLast? = some tail → 8 ≤ s.deferred.length → a.priority ≤ tail.priority →
      exec .request s = .next (s.headTaken.answered none ⟨r.sender, none, r.seq, .refuse .deferFull 0⟩))

/-- R80 and R70: WITHDRAW removes the sender's deferred request with WITHDRAWN, or answers BAD_ARGUMENT; QUERY answers
BAD_HANDLE for a stale handle, NOT_HOLDER for another's lease, and otherwise the lease's STATUS. -/
def Obligations.WithdrawAndQueryAreAnswered : Prop :=
  ∀ (s : State) (r : Request), s.messageWaits r →
    (r.message = .withdraw →
      ((∃ d ∈ s.deferred, d.sender = r.sender) → exec .withdraw s =
        .next ((s.headTaken.setDeferred (s.deferred.filter fun d => decide (d.sender ≠ r.sender))).answered none
          ⟨r.sender, none, r.seq, .refuse .withdrawn 0⟩)) ∧
      ((∀ d ∈ s.deferred, d.sender ≠ r.sender) → exec .withdraw s =
        .next (s.headTaken.answered none ⟨r.sender, none, r.seq, .refuse .badArgument 0⟩))) ∧
    (∀ h, r.message = .query h →
      (s.leaseAt h.index = none ∨ (s.leases.get h.index).generation ≠ h.generation → exec .query s =
        .next (s.headTaken.answered none ⟨r.sender, some h, r.seq, .refuse .badHandle 0⟩)) ∧
      (∀ l, s.leaseAt h.index = some l → (s.leases.get h.index).generation = h.generation →
        (l.holder ≠ some r.sender → exec .query s =
          .next (s.headTaken.answered none ⟨r.sender, some h, r.seq, .refuse .notHolder 0⟩)) ∧
        (l.holder = some r.sender → exec .query s =
          .next (s.headTaken.answered none ⟨r.sender, some h, r.seq, .status l.state l.start l.cls
            (l.endFrame.getD l.term) l.endFrame.isSome⟩))))

/-- R90, R91, R92, R8: the checks of a RENEW in their order, and an accepted one: the term limited to the renewal cap
and never shortened; for an ACTIVE lease also the end frame, and the until of its positions where it lies within 32767
frames (or has come, notes/assumptions/8.md). -/
def Obligations.RenewExtendsTheTerm : Prop :=
  ∀ (s : State) (r : Request) (h : Handle) (added : BitVec 16), s.messageWaits r → r.message = .renew h added →
    let no (why : RefusalReason) : State := s.headTaken.answered none ⟨r.sender, some h, r.seq, .refuse why 0⟩
    (s.leaseAt h.index = none ∨ (s.leases.get h.index).generation ≠ h.generation →
      exec .renew s = .next (no .badHandle)) ∧
    (∀ l, s.leaseAt h.index = some l → (s.leases.get h.index).generation = h.generation →
      (l.holder ≠ some r.sender → exec .renew s = .next (no .notHolder)) ∧
      (l.holder = some r.sender → l.state = .ending ∨ l.term = 65535 ∨ (∃ m f, l.move = some ⟨m, some f⟩) →
        exec .renew s = .next (no .wrongState)) ∧
      (l.holder = some r.sender → l.state ≠ .ending → l.term ≠ 65535 → (∀ m, l.move = some m → m.effect = none) →
        let cap := if s.settings.maxTerm = 65535 then 65534 else s.settings.maxTerm
        let term := if cap.toNat < l.term.toNat then l.term
          else BitVec.ofNat 16 (min (l.term.toNat + added.toNat) cap.toNat)
        (l.state ≠ .active → exec .renew s = .next ((s.headTaken.setLeases (s.leases.set h.index
          { s.leases.get h.index with lease := some { l with term := term } })).answered none
            ⟨r.sender, some h, r.seq, .renewed term true⟩)) ∧
        (∀ st, l.state = .active → l.startFrame = some st → term ≠ 65535 →
          let e := st + term
          let u := if (e - s.counter).toNat ≤ 32767 ∨ (e - st).toNat ≤ (s.counter - st).toNat then some e else none
          ∃ t, exec .renew s = .next t ∧
            t = ((s.headTaken.setLeases (s.leases.set h.index { s.leases.get h.index with
              lease := some { l with term := term, endFrame := some e } })).setSlots t.slots).answered none
                ⟨r.sender, some h, r.seq, .renewed e false⟩ ∧
            ∀ p x, s.slotAt p = some x → ∃ y, t.slotAt p = some y ∧ y.owner = x.owner ∧ y.guardUntil = x.guardUntil ∧
              y.quarantine = x.quarantine ∧ y.ownerUntil = (if x.owner = some h.index then u else x.ownerUntil) ∧
              y.incoming = x.incoming.map fun n => if n.lease = h.index then { n with untilFrame := u } else n)))

/-- R94, R18, R96, R107: the checks of a RELEASE, and an accepted one: an ANNOUNCING lease is retired at once (R22, R112,
R149) and answered by an unlinked RELEASED; a PENDING or ACTIVE one is ENDING with a linked RELEASED, an UNSENT move of it
removed, the worker told (R112) and deferred-reconsider set where a target position became FREE (R38, R39). -/
def Obligations.ReleaseEndsTheLease : Prop :=
  ∀ (s : State) (r : Request) (h : Handle), s.messageWaits r → r.message = .release h →
    let no (why : RefusalReason) : State := s.headTaken.answered none ⟨r.sender, some h, r.seq, .refuse why 0⟩
    let n : Notice := ⟨r.sender, some h, r.seq, .released 0 .holderRelease⟩
    (s.leaseAt h.index = none ∨ (s.leases.get h.index).generation ≠ h.generation →
      exec .release s = .next (no .badHandle)) ∧
    (∀ l, s.leaseAt h.index = some l → (s.leases.get h.index).generation = h.generation →
      (l.holder ≠ some r.sender → exec .release s = .next (no .notHolder)) ∧
      (l.holder = some r.sender → l.state = .ending → exec .release s = .next (no .wrongState)) ∧
      (l.holder = some r.sender → l.state = .announcing → ∃ t, exec .release s = .next t ∧
        t.leases = s.leases.set h.index ⟨h.generation + 1, some .holderRelease, none⟩ ∧
        t.notices = (s.notices.filter fun q => decide (q.notice.handle ≠ some h)) ++
          [⟨n, none, true, false, none, false⟩] ∧
        (∀ p, t.slotAt p = (s.slotAt p).map fun x =>
          let y : Slot := if x.owner = some h.index
            then { x with owner := none, ownerUntil := none, guardUntil := some (s.counter + 2) } else x
          if x.incoming.map Incoming.lease = some h.index then { y with incoming := none } else y) ∧
        (let e : RosterEntry := { s.entry r.sender with
           slotsHeld := (s.entry r.sender).slotsHeld - 2 ^ l.cls.val,
           leasesHeld := (s.entry r.sender).leasesHeld - 1, reply := some ⟨n, none, false⟩ }
         let forgets := l.origin = .bus ∧ ∃ c, (s.entry r.sender).reply = some c ∧ c.notice.isGrant = true ∧
          c.notice.handle = some h
         (forgets → t.roster = s.roster.set r.sender { e with lastSeq := none }) ∧
          (¬ forgets → t.roster = s.roster.set r.sender e)) ∧
        t.engine = { s.engine with lastServed := .bus, reconsider := true, stepReady := t.engine.stepReady } ∧
        (s.worker.underMove = some h →
          t.worker = { s.worker with status := .active .step, scan := l.start.val + 1, underMove := none } ∧
            t.engine.stepReady = true) ∧
        (s.worker.underMove ≠ some h → t.worker = s.worker ∧ t.engine.stepReady = s.engine.stepReady) ∧
        t.requests = s.requests.tail ∧ t.deferred = s.deferred ∧ t.attention = s.attention ∧ t.fg = s.fg ∧
        t.turnPointer = s.turnPointer ∧ t.uplink = s.uplink ∧ t.credited = s.credited ∧ t.attnEn = s.attnEn ∧
        t.settings = s.settings ∧ t.port = s.port ∧ t.cmd = s.cmd ∧ t.due = s.due) ∧
      (l.holder = some r.sender → l.state = .pending ∨ l.state = .active →
        (∀ m, l.move = some m → m.effect ≠ none) →
        exec .release s = .next ((s.headTaken.setLeases (s.leases.set h.index { s.leases.get h.index with
          lease := some { l with state := .ending, endReason := some .holderRelease } })).answered (some h.index) n)) ∧
      (∀ target, l.holder = some r.sender → l.state = .pending ∨ l.state = .active → l.move = some ⟨target, none⟩ →
        ∃ t, exec .release s = .next t ∧
          t.leases = s.leases.set h.index { s.leases.get h.index with
            lease := some { l with state := .ending, endReason := some .holderRelease, move := none } } ∧
          t.notices = (s.notices.filter fun q => !(decide (q.link = some h.index) && q.notice.isMove)) ++
            [⟨n, some h.index, true, false, none, false⟩] ∧
          (∀ p, t.slotAt p = (s.slotAt p).map fun x =>
            if x.incoming.map Incoming.lease = some h.index then { x with incoming := none } else x) ∧
          (s.worker.underMove = some h →
            t.worker = { s.worker with status := .active .step, scan := l.start.val + 1, underMove := none } ∧
              t.engine.stepReady = true) ∧
          (s.worker.underMove ≠ some h → t.worker = s.worker ∧ t.engine.stepReady = s.engine.stepReady) ∧
          t.engine = { s.engine with
            lastServed := .bus, reconsider := t.engine.reconsider, stepReady := t.engine.stepReady } ∧
          (t.engine.reconsider = true ↔ s.engine.reconsider = true ∨ ∃ p x y, s.slotAt p = some x ∧
            t.slotAt p = some y ∧ x.isFree = false ∧ y.isFree = true) ∧
          t.roster = s.roster.set r.sender { s.entry r.sender with reply := some ⟨n, none, false⟩ } ∧
          t.requests = s.requests.tail ∧ t.deferred = s.deferred ∧ t.attention = s.attention ∧ t.fg = s.fg ∧
          t.turnPointer = s.turnPointer ∧ t.uplink = s.uplink ∧ t.credited = s.credited ∧ t.attnEn = s.attnEn ∧
          t.settings = s.settings ∧ t.port = s.port ∧ t.cmd = s.cmd ∧ t.due = s.due))

/-- R71, R72, R138, R204, R206: LEAVE, the holder-retirement item, EVICT and BAR carry out the holder removal, each
with its end reason and final state, and raise ROSTER. A worker in WAIT on a lease retired goes on in STEP past it
(R22, R112), and a lease retired sets deferred-reconsider (R22, R53). Of the notices to other tributaries, those that name
a handle retired are withdrawn with it (R22, R169) and the rest stay (R71): the model's choice (notes/assumptions/33.md). -/
def Obligations.HolderRemovalTakesEveryTrace : Prop :=
  (∀ (s : State) (r : Request), s.messageWaits r → r.message = .leave →
    ∃ t, exec .leave s = .next t ∧ State.HolderRemoved r.sender .holderGone .absent s t ∧
      t.requests = s.requests.tail.filter (fun q => decide (q.sender ≠ r.sender)) ∧ t.engine.lastServed = .bus ∧
      t.attention = s.attention ||| 0x004 ∧ t.cmd = s.cmd) ∧
  (∀ (s : State) (a : Trib), s.heard → s.nextWork = some (.retirement a) →
    ∃ t, exec .holderRetirement s = .next t ∧ State.HolderRemoved a .holderGone .absent s t ∧
      t.requests = s.requests.filter (fun q => decide (q.sender ≠ a)) ∧ t.engine.lastServed = .internal ∧
      t.attention = s.attention ||| 0x004 ∧ t.cmd = s.cmd) ∧
  (∀ (s : State) (a : Trib), s.commandWaits .evict → argAddress s.cmd.arg0 = some a →
    (s.entry a).state = .present ∨ (s.entry a).state = .silent ∨ (s.entry a).state = .leaving →
    ∃ t, exec .evict s = .next t ∧ State.HolderRemoved a .holderGone .absent s t ∧
      t.requests = s.requests.filter (fun q => decide (q.sender ≠ a)) ∧ t.engine.lastServed = .management ∧
      t.attention = s.attention ||| 0x005 ∧ t.cmd = (s.concluded .ok 0).cmd) ∧
  (∀ (s : State) (a : Trib), s.commandWaits .bar → argAddress s.cmd.arg0 = some a → (s.entry a).state ≠ .barred →
    ∃ t, exec .bar s = .next t ∧ State.HolderRemoved a .barred .barred s t ∧
      t.requests = s.requests.filter (fun q => decide (q.sender ≠ a)) ∧ t.engine.lastServed = .management ∧
      t.attention = s.attention ||| 0x005 ∧ t.cmd = (s.concluded .ok 0).cmd)

/-! ### Internal work -/

/-- R110, R102, R113: a compaction step decides the move of the first candidate, from the scan point upwards and then
below it, that has a lower wholly FREE target, its lowest; with none the worker ends with COMPACT_END. -/
def Obligations.CompactionStepDecidesOneMove : Prop :=
  ∀ s : State, s.heard → s.nextWork = some .compaction →
    let candidate (i : LeaseIdx) (l : Lease) : Prop :=
      s.leaseAt i = some l ∧ l.state = .active ∧ l.origin ≠ .pin ∧ l.move = none
    let target (l : Lease) (p : Pos) : Prop :=
      p < l.start ∧ s.runFree l.cls p = true ∧ ∀ q, q < p → s.runFree l.cls q = false
    (∀ i l p a, candidate i l → target l p → l.holder = some a →
      (∀ j k q, j ≠ i → candidate j k → target k q →
        (s.worker.scan ≤ l.start.val ∧ (k.start.val < s.worker.scan ∨ l.start < k.start)) ∨
          (l.start.val < s.worker.scan ∧ k.start.val < s.worker.scan ∧ l.start < k.start)) →
      ∃ t, exec .compactionStep s = .next t ∧
        t = ((((s.setLeases (s.leases.set i { s.leases.get i with lease := some { l with
          move := some ⟨p, none⟩ } })).setSlots t.slots).setNotices (s.notices ++
            [⟨⟨a, some (s.handleOf i), l.seqEcho, .move p 0⟩, some i, false, false, none, false⟩])).setWorker
              { s.worker with status := .active .wait, underMove := some (s.handleOf i) }).setEngine
                { s.engine with lastServed := .internal, stepReady := false } ∧
        (∀ q, t.slotAt q = (s.slotAt q).map fun x =>
          if p.val ≤ q ∧ q < p.val + 2 ^ l.cls.val then { x with incoming := some ⟨i, none, none⟩ } else x)) ∧
    ((∀ i l p, candidate i l → ¬ target l p) → exec .compactionStep s =
      .next (((s.setWorker { s.worker with status := .off, underMove := none }).setEngine
        { s.engine with lastServed := .internal, stepReady := false }).flagSet 0x020))

/-- R82, R83, R81, R79: a reconsideration pass grants the first entry of the deferred list that fits, with a linked
GRANT that is no reply copy, and the flag stays set; with none that fits it clears the flag. -/
def Obligations.ReconsiderationGrantsFirstFit : Prop :=
  ∀ s : State, s.heard → s.nextWork = some .reconsider →
    let fit (d : Deferred) (i : LeaseIdx) (start : Pos) : Prop := s.speaks d.sender = true ∧
      (s.entry d.sender).slotsHeld + 2 ^ d.cls.val ≤ (s.entry d.sender).slotQuota ∧
      (s.entry d.sender).leasesHeld + 1 ≤ (s.entry d.sender).leaseQuota ∧ s.freeEntry = some i ∧
      s.placement d.cls (d.preferred.getD 0) = some start ∧ 32768 ≤ (s.counter - d.waitUntil).toNat
    (∀ above d below i start, s.deferred = above ++ d :: below → (∀ x ∈ above, ∀ j p, ¬ fit x j p) → fit d i start →
      let term := if d.term.toNat ≤ s.settings.maxTerm.toNat then d.term else s.settings.maxTerm
      ∃ t, exec .reconsiderationPass s = .next t ∧
        t = (((((s.setDeferred (above ++ below)).setLeases (s.leases.set i ⟨(s.leases.get i).generation, none,
          some ⟨.announcing, some d.sender, .bus, start, d.cls, d.priority, term, none, none, none, d.seq, false, 0, none,
            false⟩⟩)).setSlots t.slots).setRoster (s.roster.set d.sender { s.entry d.sender with
              slotsHeld := (s.entry d.sender).slotsHeld + 2 ^ d.cls.val,
              leasesHeld := (s.entry d.sender).leasesHeld + 1 })).setNotices (s.notices ++
                [⟨⟨d.sender, some (s.handleOf i), d.seq, .grant start d.cls 0 term⟩, some i, false, false, none,
                  false⟩])).served .internal ∧
        (∀ q, t.slotAt q = (s.slotAt q).map fun x =>
          if start.val ≤ q ∧ q < start.val + 2 ^ d.cls.val then { x with incoming := some ⟨i, none, none⟩ } else x)) ∧
    ((∀ d ∈ s.deferred, ∀ i start, ¬ fit d i start) → exec .reconsiderationPass s =
      .next (s.setEngine { s.engine with lastServed := .internal, reconsider := false }))


/-! ### Management commands -/

/-- R198, R15, R1: the checks of PIN in their order, and an accepted one: an ACTIVE lease of holder 0, term OPEN and
start frame equal to the counter in the lowest FREE entry, owner of its run at once; RESULT carries its handle. -/
def Obligations.PinReservesItsRun : Prop :=
  ∀ s : State, s.commandWaits .pin →
    let cls := (s.cmd.arg0.extractLsb' 8 3).toNat
    let start : Pos := posOf (s.cmd.arg0.extractLsb' 0 6)
    (5 ≤ cls ∨ start.val < 10 ∨ start.val % 2 ^ cls ≠ 0 ∨ 64 < start.val + 2 ^ cls →
      exec .pin s = .next (s.concluded .badArgument 0)) ∧
    (∀ c : LenClass, c.val = cls → 10 ≤ start.val → start.val % 2 ^ cls = 0 → start.val + 2 ^ cls ≤ 64 →
      (s.runFree c start = false → exec .pin s = .next (s.concluded .occupied 0)) ∧
      (s.runFree c start = true → s.freeEntry = none → exec .pin s = .next (s.concluded .noEntry 0)) ∧
      (∀ i, s.runFree c start = true → s.freeEntry = some i → ∃ t, exec .pin s = .next t ∧
        t = ((s.setLeases (s.leases.set i ⟨(s.leases.get i).generation, none, some ⟨.active, none, .pin, start, c, 3, 65535,
          some s.counter, none, none, false, false, 0, none, false⟩⟩)).setSlots t.slots).concluded .ok
            (BitVec.ofNat 16 (8 * i.val + (s.leases.get i).generation.toNat)) ∧
        (∀ p, t.slotAt p = (s.slotAt p).map fun x =>
          if start.val ≤ p ∧ p < start.val + 2 ^ cls then { x with owner := some i, ownerUntil := none } else x)))

/-- R199, R37, R22: the checks of UNPIN, and an accepted one: the pin is retired at once with HOST_REVOKE and its
positions rest under a guard to the counter + 2. -/
def Obligations.UnpinFreesItsRun : Prop :=
  ∀ s : State, s.commandWaits .unpin →
    let h := handleOfWire (s.cmd.arg0.extractLsb' 0 8)
    (s.leaseAt h.index = none ∨ (s.leases.get h.index).generation ≠ h.generation →
      exec .unpin s = .next (s.concluded .badHandle 0)) ∧
    (∀ l, s.leaseAt h.index = some l → (s.leases.get h.index).generation = h.generation →
      (l.origin ≠ .pin → exec .unpin s = .next (s.concluded .wrongState 0)) ∧
      (l.origin = .pin → l.holder = none → ∃ t, exec .unpin s = .next t ∧
        t = (((((s.setLeases (s.leases.set h.index ⟨h.generation + 1, some .hostRevoke, none⟩)).setSlots t.slots).setNotices
          (s.notices.filter fun q => decide (q.notice.handle ≠ some h))).setWorker t.worker).setEngine
            t.engine).concluded .ok 0 ∧
        t.engine = { s.engine with lastServed := .management, reconsider := true, stepReady := t.engine.stepReady } ∧
        (s.worker.underMove = some h →
          t.worker = { s.worker with status := .active .step, scan := l.start.val + 1, underMove := none } ∧
            t.engine.stepReady = true) ∧
        (s.worker.underMove ≠ some h → t.worker = s.worker ∧ t.engine.stepReady = s.engine.stepReady) ∧
        (∀ p, t.slotAt p = (s.slotAt p).map fun x =>
          let y : Slot := if x.owner = some h.index
            then { x with owner := none, ownerUntil := none, guardUntil := some (s.counter + 2) } else x
          if x.incoming.map Incoming.lease = some h.index then { y with incoming := none } else y)))

/-- R200, R201, R15, R7: the checks of GRANT_TO in their order, and a grant: an ANNOUNCING lease of origin GRANTED with
sequence echo 0 in the lowest FREE entry, its run's incoming entries, the held counts, and a linked GRANT that is no
reply copy; RESULT carries its handle. -/
def Obligations.GrantToPlacesALease : Prop :=
  ∀ s : State, s.commandWaits .grantTo →
    let addr := s.cmd.arg0.extractLsb' 0 5
    let w := s.cmd.arg0.extractLsb' 8 6
    let cls := (s.cmd.arg0.extractLsb' 16 3).toNat
    let priority := s.cmd.arg0.extractLsb' 20 2
    let asked := s.cmd.arg1.extractLsb' 0 16
    (addr = 0 ∨ addr = 31 ∨ 5 ≤ cls ∨ asked = 0 ∨
        (w ≠ 0 ∧ (w.toNat < 10 ∨ w.toNat % 2 ^ cls ≠ 0 ∨ 64 < w.toNat + 2 ^ cls)) →
      exec .grantTo s = .next (s.concluded .badArgument 0)) ∧
    (∀ (a : Trib) (c : LenClass), addr = Trib.wire a → c.val = cls → asked ≠ 0 →
      w = 0 ∨ (10 ≤ w.toNat ∧ w.toNat % 2 ^ cls = 0 ∧ w.toNat + 2 ^ cls ≤ 64) →
      let e := s.entry a
      let fits := e.slotsHeld + 2 ^ cls ≤ e.slotQuota ∧ e.leasesHeld + 1 ≤ e.leaseQuota
      (e.state ≠ .present → exec .grantTo s = .next (s.concluded .notPresent 0)) ∧
      (e.state = .present → ¬ fits → exec .grantTo s = .next (s.concluded .quota 0)) ∧
      (e.state = .present → fits → s.freeEntry = none → exec .grantTo s = .next (s.concluded .noEntry 0)) ∧
      (e.state = .present → fits → s.freeEntry ≠ none →
        (w = 0 ∧ s.placement c 0 = none) ∨ (w ≠ 0 ∧ s.runFree c (posOf w) = false) →
        exec .grantTo s = .next (s.concluded .noSpace 0)) ∧
      (∀ i start, e.state = .present → fits → s.freeEntry = some i →
        (w = 0 ∧ s.placement c 0 = some start) ∨ (w ≠ 0 ∧ start = posOf w ∧ s.runFree c start = true) →
        let term := if asked.toNat ≤ s.settings.maxTerm.toNat then asked else s.settings.maxTerm
        ∃ t, exec .grantTo s = .next t ∧
          t = ((((s.setLeases (s.leases.set i ⟨(s.leases.get i).generation, none, some ⟨.announcing, some a, .granted, start,
            c, priority, term, none, none, none, false, false, 0, none, false⟩⟩)).setSlots t.slots).setRoster
              (s.roster.set a { e with slotsHeld := e.slotsHeld + 2 ^ cls, leasesHeld := e.leasesHeld + 1 })).setNotices
                (s.notices ++ [⟨⟨a, some (s.handleOf i), false, .grant start c 0 term⟩, some i, false, false, none,
                  false⟩])).concluded .ok (BitVec.ofNat 16 (8 * i.val + (s.leases.get i).generation.toNat)) ∧
          (∀ p, t.slotAt p = (s.slotAt p).map fun x =>
            if start.val ≤ p ∧ p < start.val + 2 ^ cls then { x with incoming := some ⟨i, none, none⟩ } else x)))

/-- R97, R202, R18, R96, R107, R149: the checks of REVOKE, and an accepted one: an ANNOUNCING lease is retired at once
with no notice (R22, R112), and its unanswered GRANT is no longer a reply copy; a PENDING or ACTIVE one is ENDING with a linked
REVOKED, an UNSENT move of it removed, the worker told (R112) and deferred-reconsider set where a target position became FREE
(R38, R39). -/
def Obligations.RevokeEndsTheLease : Prop :=
  ∀ s : State, s.commandWaits .revoke →
    let h := handleOfWire (s.cmd.arg0.extractLsb' 0 8)
    (s.leaseAt h.index = none ∨ (s.leases.get h.index).generation ≠ h.generation →
      exec .revoke s = .next (s.concluded .badHandle 0)) ∧
    (∀ l, s.leaseAt h.index = some l → (s.leases.get h.index).generation = h.generation →
      (l.origin = .pin ∨ l.state = .ending → exec .revoke s = .next (s.concluded .wrongState 0)) ∧
      (∀ a, l.origin ≠ .pin → l.holder = some a → l.state = .announcing → ∃ t, exec .revoke s = .next t ∧
        t.leases = s.leases.set h.index ⟨h.generation + 1, some .hostRevoke, none⟩ ∧
        t.notices = s.notices.filter (fun q => decide (q.notice.handle ≠ some h)) ∧
        (∀ p, t.slotAt p = (s.slotAt p).map fun x =>
          let y : Slot := if x.owner = some h.index
            then { x with owner := none, ownerUntil := none, guardUntil := some (s.counter + 2) } else x
          if x.incoming.map Incoming.lease = some h.index then { y with incoming := none } else y) ∧
        (let e : RosterEntry := { s.entry a with
           slotsHeld := (s.entry a).slotsHeld - 2 ^ l.cls.val, leasesHeld := (s.entry a).leasesHeld - 1 }
         let forgets := l.origin = .bus ∧ ∃ c, e.reply = some c ∧ c.notice.isGrant = true ∧ c.notice.handle = some h
         (forgets → t.roster = s.roster.set a { e with reply := none, lastSeq := none }) ∧
          (¬ forgets → t.roster = s.roster.set a e)) ∧
        t.engine = { s.engine with lastServed := .management, reconsider := true, stepReady := t.engine.stepReady } ∧
        (s.worker.underMove = some h →
          t.worker = { s.worker with status := .active .step, scan := l.start.val + 1, underMove := none } ∧
            t.engine.stepReady = true) ∧
        (s.worker.underMove ≠ some h → t.worker = s.worker ∧ t.engine.stepReady = s.engine.stepReady) ∧
        t.requests = s.requests ∧ t.deferred = s.deferred ∧ t.attention = s.attention ||| 0x001 ∧
        t.cmd = (s.concluded .ok 0).cmd ∧ t.fg = s.fg ∧ t.turnPointer = s.turnPointer ∧ t.uplink = s.uplink ∧
        t.credited = s.credited ∧ t.attnEn = s.attnEn ∧ t.settings = s.settings ∧ t.port = s.port ∧ t.due = s.due) ∧
      (∀ a, l.origin ≠ .pin → l.holder = some a → l.state = .pending ∨ l.state = .active →
        let told : QueuedNotice := ⟨⟨a, some h, l.seqEcho, .revoked 0 .hostRevoke⟩, some h.index, false, false, none, false⟩
        ((∀ m, l.move = some m → m.effect ≠ none) →
          exec .revoke s = .next (((s.setLeases (s.leases.set h.index { s.leases.get h.index with
            lease := some { l with state := .ending, endReason := some .hostRevoke } })).setNotices
              (s.notices ++ [told])).concluded .ok 0)) ∧
        (∀ target, l.move = some ⟨target, none⟩ → ∃ t, exec .revoke s = .next t ∧
          t.leases = s.leases.set h.index { s.leases.get h.index with
            lease := some { l with state := .ending, endReason := some .hostRevoke, move := none } } ∧
          t.notices = (s.notices.filter fun q => !(decide (q.link = some h.index) && q.notice.isMove)) ++ [told] ∧
          (∀ p, t.slotAt p = (s.slotAt p).map fun x =>
            if x.incoming.map Incoming.lease = some h.index then { x with incoming := none } else x) ∧
          (s.worker.underMove = some h →
            t.worker = { s.worker with status := .active .step, scan := l.start.val + 1, underMove := none } ∧
              t.engine.stepReady = true) ∧
          (s.worker.underMove ≠ some h → t.worker = s.worker ∧ t.engine.stepReady = s.engine.stepReady) ∧
          t.engine = { s.engine with
            lastServed := .management, reconsider := t.engine.reconsider, stepReady := t.engine.stepReady } ∧
          (t.engine.reconsider = true ↔ s.engine.reconsider = true ∨ ∃ p x y, s.slotAt p = some x ∧
            t.slotAt p = some y ∧ x.isFree = false ∧ y.isFree = true) ∧
          t.roster = s.roster ∧ t.requests = s.requests ∧ t.deferred = s.deferred ∧
          t.attention = s.attention ||| 0x001 ∧ t.cmd = (s.concluded .ok 0).cmd ∧ t.fg = s.fg ∧
          t.turnPointer = s.turnPointer ∧ t.uplink = s.uplink ∧ t.credited = s.credited ∧ t.attnEn = s.attnEn ∧
          t.settings = s.settings ∧ t.port = s.port ∧ t.due = s.due)))

/-- R203 to R206: SET_QUOTA, UNBAR and the outcomes of BAR and EVICT that remove no holder; a refused command changes
no record. -/
def Obligations.RosterCommandsActByEntry : Prop :=
  ∀ s : State,
    let addr := s.cmd.arg0.extractLsb' 0 5
    let slots := (s.cmd.arg0.extractLsb' 8 6).toNat
    let leases := (s.cmd.arg0.extractLsb' 16 4).toNat
    (s.commandWaits .setQuota → addr = 0 ∨ addr = 31 ∨ 54 < slots ∨ leases = 0 ∨ 8 < leases →
      exec .setQuota s = .next (s.concluded .badArgument 0)) ∧
    (s.commandWaits .bar → addr = 0 ∨ addr = 31 → exec .bar s = .next (s.concluded .badArgument 0)) ∧
    (s.commandWaits .unbar → addr = 0 ∨ addr = 31 → exec .unbar s = .next (s.concluded .badArgument 0)) ∧
    (s.commandWaits .evict → addr = 0 ∨ addr = 31 → exec .evict s = .next (s.concluded .badArgument 0)) ∧
    (∀ a : Trib, addr = Trib.wire a →
      let e := s.entry a
      (s.commandWaits .setQuota → slots ≤ 54 → 1 ≤ leases → leases ≤ 8 →
        (slots < e.slotsHeld ∨ leases < e.leasesHeld → exec .setQuota s = .next (s.concluded .overQuota 0)) ∧
        (e.slotsHeld ≤ slots → e.leasesHeld ≤ leases → exec .setQuota s =
          .next ((s.setRoster (s.roster.set a { e with slotQuota := slots, leaseQuota := leases })).concluded .ok 0))) ∧
      (s.commandWaits .bar → e.state = .barred → exec .bar s = .next (s.concluded .ok 0)) ∧
      (s.commandWaits .unbar → e.state ≠ .barred → exec .unbar s = .next (s.concluded .wrongState 0)) ∧
      (s.commandWaits .unbar → e.state = .barred → exec .unbar s =
        .next ((s.setRoster (s.roster.set a { e with state := .absent })).concluded .ok 0)) ∧
      (s.commandWaits .evict → e.state = .absent ∨ e.state = .barred →
        exec .evict s = .next (s.concluded .wrongState 0)))

/-- R207, R46, R39: CLEAR_Q refuses a range that is reversed or leaves 10-63; otherwise it clears the flags of the
range, and sets deferred-reconsider if a position became FREE. -/
def Obligations.ClearQuarantineFreesPositions : Prop :=
  ∀ s : State, s.commandWaits .clearQ →
    let first := (s.cmd.arg0.extractLsb' 0 6).toNat
    let last := (s.cmd.arg0.extractLsb' 8 6).toNat
    (last < first ∨ first < 10 → exec .clearQ s = .next (s.concluded .badArgument 0)) ∧
    (10 ≤ first → first ≤ last → ∃ t, exec .clearQ s = .next t ∧
      t = ((s.setSlots t.slots).setEngine { s.engine with reconsider := t.engine.reconsider }).concluded .ok 0 ∧
      (∀ p, t.slotAt p = (s.slotAt p).map fun x =>
        if first ≤ p ∧ p ≤ last then { x with quarantine := false } else x) ∧
      (t.engine.reconsider = true ↔ s.engine.reconsider = true ∨ ∃ p x y, s.slotAt p = some x ∧ t.slotAt p = some y ∧
        x.isFree = false ∧ y.isFree = true))

/-- R208, R109, R113, R87, R192: COMPACT starts the worker at scan point 10, COMPACT_ABORT stops it with COMPACT_END,
each WRONG_STATE otherwise; FLUSH_DEFERRED marks every deferred entry to expire; a code that names no command is
BAD_ARGUMENT. -/
def Obligations.WorkerAndListCommandsAct : Prop :=
  ∀ s : State,
    (s.commandWaits .compact →
      (s.worker.status = .off → exec .compact s = .next (((s.setWorker ⟨.active .step, 10, none, 0⟩).setEngine
        { s.engine with stepReady := true }).concluded .ok 0)) ∧
      (s.worker.status ≠ .off → exec .compact s = .next (s.concluded .wrongState 0))) ∧
    (s.commandWaits .compactAbort →
      (s.worker.status ≠ .off → exec .compactAbort s = .next ((((s.setWorker
        { s.worker with status := .off, underMove := none }).setEngine { s.engine with stepReady := false }).flagSet
          0x020).concluded .ok 0)) ∧
      (s.worker.status = .off → exec .compactAbort s = .next (s.concluded .wrongState 0))) ∧
    (s.commandWaits .flushDeferred → exec .flushDeferred s =
      .next ((s.setDeferred (s.deferred.map fun d => { d with waitUntil := s.counter })).concluded .ok
        (BitVec.ofNat 16 s.deferred.length))) ∧
    (s.heard → s.nextWork = some .command →
      s.cmd.code ∉ ([0x01, 0x02, 0x03, 0x04, 0x05, 0x06, 0x07, 0x08, 0x09, 0x0A, 0x0B, 0x0C, 0x5A] : List Byte) →
      exec .unknownCommand s = .next (s.concluded .badArgument 0))

/-- R209, R124, R24, R48, R53, R56, R89, R108, R151, R160, R170, R171: RESTART stops the generator, retires every lease
that is no pin, empties the queues and internal work, and keeps pins, quarantine flags, quotas, BARRED entries and
configuration. The port's transaction and its kept offset and count are left as they are (R185), and the reactions of the
frame cut off that were still due are not made (notes/assumptions/30.md). -/
def Obligations.RestartKeepsWhatTheHostSetUp : Prop :=
  ∀ s : State, s.commandWaits .restart → ∃ t, exec .restart s = .next t ∧
    t.fg = ⟨.stopped, 0, .between, false, none, none⟩ ∧
    (∀ i : LeaseIdx, t.leases.get i = match (s.leases.get i).lease with
      | some l => if l.origin = .pin then { s.leases.get i with lease := some { l with startFrame := some 0 } }
        else ⟨(s.leases.get i).generation + 1, some .restart, none⟩
      | none => s.leases.get i) ∧
    (let pinned (x : Slot) : Bool := x.owner.any fun i => (s.leaseAt i).any fun l => decide (l.origin = .pin)
     ∀ p, t.slotAt p = (s.slotAt p).map fun x =>
      if pinned x then { x with ownerUntil := none, incoming := none }
      else { x with owner := none, ownerUntil := none, incoming := none, guardUntil :=
        if x.owner.isSome ∨ x.guardUntil.isSome then some 1 else none }) ∧
    t.requests = [] ∧ t.deferred = [] ∧ t.notices = [] ∧ t.engine.lastServed = .internal ∧
    (∀ a : Trib, t.engine.retireFlags.get a = false) ∧ t.engine.stepReady = false ∧ t.engine.reconsider = false ∧
    t.worker = { s.worker with status := .off, underMove := none } ∧
    t.attention = (if s.worker.status = .off then s.attention ||| 0x001 else s.attention ||| 0x021) ∧
    (∀ a : Trib, t.entry a = if (s.entry a).state = .barred then { s.entry a with slotsHeld := 0, leasesHeld := 0 }
      else ⟨.absent, none, 0, none, none, (s.entry a).slotQuota, (s.entry a).leaseQuota, 0, 0⟩) ∧
    t.turnPointer = 0 ∧ t.uplink = ⟨none, none, none⟩ ∧ (∀ i : LeaseIdx, t.credited.get i = false) ∧
    t.cmd = (s.concluded .ok 0).cmd ∧ t.due = Due.nothing ∧ t.attnEn = s.attnEn ∧ t.settings = s.settings ∧
    t.port = s.port ∧ t.pending = s.pending

/-! ### Invariants -/

/-- Every invariant holds after reset. -/
def Obligations.ResetSatisfiesEveryLaw : Prop :=
  State.reset.QueueLaw ∧ State.reset.SlotLaw ∧ State.reset.WorkerLaw ∧ State.reset.GeneratorLaw ∧
    State.reset.SettingsLaw ∧ State.reset.PortLaw ∧ State.reset.HoldingsLaw ∧ State.reset.RunLaw

/-- R55, R57, R75, R76, R164: every step keeps the law of the queues: their depths, one message and one deferred
request of any sender, the list's order by priority, and room for the message of an open frame. -/
def Obligations.StepKeepsQueueLaw : Prop :=
  ∀ s t : State, s.QueueLaw → step s = .next t → t.QueueLaw

/-- R26, R22: every step keeps the pairings of the position records, and no record names a FREE entry. -/
def Obligations.StepKeepsSlotLaw : Prop :=
  ∀ s t : State, s.SlotLaw → step s = .next t → t.SlotLaw

/-- R108, R110 to R113: every step keeps the compaction worker's phase, flag and lease under move in agreement. -/
def Obligations.StepKeepsWorkerLaw : Prop :=
  ∀ s t : State, s.WorkerLaw → step s = .next t → t.WorkerLaw

/-- R117, R119 to R124, R183, R184, R188: every step keeps the generator's law, the ranges of the configuration fields, and
the port's kept phase and transaction well formed. -/
def Obligations.StepKeepsGeneratorAndSettingsLaw : Prop :=
  (∀ s t : State, s.GeneratorLaw → step s = .next t → t.GeneratorLaw) ∧
    (∀ s t : State, s.SettingsLaw → step s = .next t → t.SettingsLaw) ∧
    (∀ s t : State, s.PortLaw → step s = .next t → t.PortLaw)

/-- R4, R61, R134: every step keeps the held counts equal to the leases held and within quota. -/
def Obligations.StepKeepsHoldingsLaw : Prop :=
  ∀ s t : State, s.HoldingsLaw → step s = .next t → t.HoldingsLaw

/-- R5, R27, R42: every step keeps every run and every move target an aligned run of its class. -/
def Obligations.StepKeepsRunLaw : Prop :=
  ∀ s t : State, s.RunLaw → step s = .next t → t.RunLaw
end

