-- ==== Sys2Proof/Laws/State.lean ====
section
/-!
SUPPORT. Beside State: one lemma per field per update, by rfl, and what an update does to itself.
-/
namespace Sys2Proof.Machine.State

variable (s : State)

@[simp] theorem fg_setFg (v : FrameGen) : (s.setFg v).fg = v := rfl
@[simp] theorem slots_setFg (v : FrameGen) : (s.setFg v).slots = s.slots := rfl
@[simp] theorem leases_setFg (v : FrameGen) : (s.setFg v).leases = s.leases := rfl
@[simp] theorem engine_setFg (v : FrameGen) : (s.setFg v).engine = s.engine := rfl
@[simp] theorem requests_setFg (v : FrameGen) : (s.setFg v).requests = s.requests := rfl
@[simp] theorem deferred_setFg (v : FrameGen) : (s.setFg v).deferred = s.deferred := rfl
@[simp] theorem worker_setFg (v : FrameGen) : (s.setFg v).worker = s.worker := rfl
@[simp] theorem roster_setFg (v : FrameGen) : (s.setFg v).roster = s.roster := rfl
@[simp] theorem turnPointer_setFg (v : FrameGen) : (s.setFg v).turnPointer = s.turnPointer := rfl
@[simp] theorem uplink_setFg (v : FrameGen) : (s.setFg v).uplink = s.uplink := rfl
@[simp] theorem notices_setFg (v : FrameGen) : (s.setFg v).notices = s.notices := rfl
@[simp] theorem credited_setFg (v : FrameGen) : (s.setFg v).credited = s.credited := rfl
@[simp] theorem attention_setFg (v : FrameGen) : (s.setFg v).attention = s.attention := rfl
@[simp] theorem attnEn_setFg (v : FrameGen) : (s.setFg v).attnEn = s.attnEn := rfl
@[simp] theorem settings_setFg (v : FrameGen) : (s.setFg v).settings = s.settings := rfl
@[simp] theorem port_setFg (v : FrameGen) : (s.setFg v).port = s.port := rfl
@[simp] theorem cmd_setFg (v : FrameGen) : (s.setFg v).cmd = s.cmd := rfl
@[simp] theorem due_setFg (v : FrameGen) : (s.setFg v).due = s.due := rfl
@[simp] theorem pending_setFg (v : FrameGen) : (s.setFg v).pending = s.pending := rfl
@[simp] theorem setFg_self : s.setFg s.fg = s := rfl
@[simp] theorem setFg_setFg (v w : FrameGen) : (s.setFg v).setFg w = s.setFg w := rfl

@[simp] theorem fg_setSlots (v : Table Slot 54) : (s.setSlots v).fg = s.fg := rfl
@[simp] theorem slots_setSlots (v : Table Slot 54) : (s.setSlots v).slots = v := rfl
@[simp] theorem leases_setSlots (v : Table Slot 54) : (s.setSlots v).leases = s.leases := rfl
@[simp] theorem engine_setSlots (v : Table Slot 54) : (s.setSlots v).engine = s.engine := rfl
@[simp] theorem requests_setSlots (v : Table Slot 54) : (s.setSlots v).requests = s.requests := rfl
@[simp] theorem deferred_setSlots (v : Table Slot 54) : (s.setSlots v).deferred = s.deferred := rfl
@[simp] theorem worker_setSlots (v : Table Slot 54) : (s.setSlots v).worker = s.worker := rfl
@[simp] theorem roster_setSlots (v : Table Slot 54) : (s.setSlots v).roster = s.roster := rfl
@[simp] theorem turnPointer_setSlots (v : Table Slot 54) : (s.setSlots v).turnPointer = s.turnPointer := rfl
@[simp] theorem uplink_setSlots (v : Table Slot 54) : (s.setSlots v).uplink = s.uplink := rfl
@[simp] theorem notices_setSlots (v : Table Slot 54) : (s.setSlots v).notices = s.notices := rfl
@[simp] theorem credited_setSlots (v : Table Slot 54) : (s.setSlots v).credited = s.credited := rfl
@[simp] theorem attention_setSlots (v : Table Slot 54) : (s.setSlots v).attention = s.attention := rfl
@[simp] theorem attnEn_setSlots (v : Table Slot 54) : (s.setSlots v).attnEn = s.attnEn := rfl
@[simp] theorem settings_setSlots (v : Table Slot 54) : (s.setSlots v).settings = s.settings := rfl
@[simp] theorem port_setSlots (v : Table Slot 54) : (s.setSlots v).port = s.port := rfl
@[simp] theorem cmd_setSlots (v : Table Slot 54) : (s.setSlots v).cmd = s.cmd := rfl
@[simp] theorem due_setSlots (v : Table Slot 54) : (s.setSlots v).due = s.due := rfl
@[simp] theorem pending_setSlots (v : Table Slot 54) : (s.setSlots v).pending = s.pending := rfl
@[simp] theorem setSlots_self : s.setSlots s.slots = s := rfl
@[simp] theorem setSlots_setSlots (v w : Table Slot 54) : (s.setSlots v).setSlots w = s.setSlots w := rfl

@[simp] theorem fg_setLeases (v : Table LeaseEntry 32) : (s.setLeases v).fg = s.fg := rfl
@[simp] theorem slots_setLeases (v : Table LeaseEntry 32) : (s.setLeases v).slots = s.slots := rfl
@[simp] theorem leases_setLeases (v : Table LeaseEntry 32) : (s.setLeases v).leases = v := rfl
@[simp] theorem engine_setLeases (v : Table LeaseEntry 32) : (s.setLeases v).engine = s.engine := rfl
@[simp] theorem requests_setLeases (v : Table LeaseEntry 32) : (s.setLeases v).requests = s.requests := rfl
@[simp] theorem deferred_setLeases (v : Table LeaseEntry 32) : (s.setLeases v).deferred = s.deferred := rfl
@[simp] theorem worker_setLeases (v : Table LeaseEntry 32) : (s.setLeases v).worker = s.worker := rfl
@[simp] theorem roster_setLeases (v : Table LeaseEntry 32) : (s.setLeases v).roster = s.roster := rfl
@[simp] theorem turnPointer_setLeases (v : Table LeaseEntry 32) : (s.setLeases v).turnPointer = s.turnPointer := rfl
@[simp] theorem uplink_setLeases (v : Table LeaseEntry 32) : (s.setLeases v).uplink = s.uplink := rfl
@[simp] theorem notices_setLeases (v : Table LeaseEntry 32) : (s.setLeases v).notices = s.notices := rfl
@[simp] theorem credited_setLeases (v : Table LeaseEntry 32) : (s.setLeases v).credited = s.credited := rfl
@[simp] theorem attention_setLeases (v : Table LeaseEntry 32) : (s.setLeases v).attention = s.attention := rfl
@[simp] theorem attnEn_setLeases (v : Table LeaseEntry 32) : (s.setLeases v).attnEn = s.attnEn := rfl
@[simp] theorem settings_setLeases (v : Table LeaseEntry 32) : (s.setLeases v).settings = s.settings := rfl
@[simp] theorem port_setLeases (v : Table LeaseEntry 32) : (s.setLeases v).port = s.port := rfl
@[simp] theorem cmd_setLeases (v : Table LeaseEntry 32) : (s.setLeases v).cmd = s.cmd := rfl
@[simp] theorem due_setLeases (v : Table LeaseEntry 32) : (s.setLeases v).due = s.due := rfl
@[simp] theorem pending_setLeases (v : Table LeaseEntry 32) : (s.setLeases v).pending = s.pending := rfl
@[simp] theorem setLeases_self : s.setLeases s.leases = s := rfl
@[simp] theorem setLeases_setLeases (v w : Table LeaseEntry 32) : (s.setLeases v).setLeases w = s.setLeases w := rfl

@[simp] theorem fg_setEngine (v : Engine) : (s.setEngine v).fg = s.fg := rfl
@[simp] theorem slots_setEngine (v : Engine) : (s.setEngine v).slots = s.slots := rfl
@[simp] theorem leases_setEngine (v : Engine) : (s.setEngine v).leases = s.leases := rfl
@[simp] theorem engine_setEngine (v : Engine) : (s.setEngine v).engine = v := rfl
@[simp] theorem requests_setEngine (v : Engine) : (s.setEngine v).requests = s.requests := rfl
@[simp] theorem deferred_setEngine (v : Engine) : (s.setEngine v).deferred = s.deferred := rfl
@[simp] theorem worker_setEngine (v : Engine) : (s.setEngine v).worker = s.worker := rfl
@[simp] theorem roster_setEngine (v : Engine) : (s.setEngine v).roster = s.roster := rfl
@[simp] theorem turnPointer_setEngine (v : Engine) : (s.setEngine v).turnPointer = s.turnPointer := rfl
@[simp] theorem uplink_setEngine (v : Engine) : (s.setEngine v).uplink = s.uplink := rfl
@[simp] theorem notices_setEngine (v : Engine) : (s.setEngine v).notices = s.notices := rfl
@[simp] theorem credited_setEngine (v : Engine) : (s.setEngine v).credited = s.credited := rfl
@[simp] theorem attention_setEngine (v : Engine) : (s.setEngine v).attention = s.attention := rfl
@[simp] theorem attnEn_setEngine (v : Engine) : (s.setEngine v).attnEn = s.attnEn := rfl
@[simp] theorem settings_setEngine (v : Engine) : (s.setEngine v).settings = s.settings := rfl
@[simp] theorem port_setEngine (v : Engine) : (s.setEngine v).port = s.port := rfl
@[simp] theorem cmd_setEngine (v : Engine) : (s.setEngine v).cmd = s.cmd := rfl
@[simp] theorem due_setEngine (v : Engine) : (s.setEngine v).due = s.due := rfl
@[simp] theorem pending_setEngine (v : Engine) : (s.setEngine v).pending = s.pending := rfl
@[simp] theorem setEngine_self : s.setEngine s.engine = s := rfl
@[simp] theorem setEngine_setEngine (v w : Engine) : (s.setEngine v).setEngine w = s.setEngine w := rfl

@[simp] theorem fg_setRequests (v : List Request) : (s.setRequests v).fg = s.fg := rfl
@[simp] theorem slots_setRequests (v : List Request) : (s.setRequests v).slots = s.slots := rfl
@[simp] theorem leases_setRequests (v : List Request) : (s.setRequests v).leases = s.leases := rfl
@[simp] theorem engine_setRequests (v : List Request) : (s.setRequests v).engine = s.engine := rfl
@[simp] theorem requests_setRequests (v : List Request) : (s.setRequests v).requests = v := rfl
@[simp] theorem deferred_setRequests (v : List Request) : (s.setRequests v).deferred = s.deferred := rfl
@[simp] theorem worker_setRequests (v : List Request) : (s.setRequests v).worker = s.worker := rfl
@[simp] theorem roster_setRequests (v : List Request) : (s.setRequests v).roster = s.roster := rfl
@[simp] theorem turnPointer_setRequests (v : List Request) : (s.setRequests v).turnPointer = s.turnPointer := rfl
@[simp] theorem uplink_setRequests (v : List Request) : (s.setRequests v).uplink = s.uplink := rfl
@[simp] theorem notices_setRequests (v : List Request) : (s.setRequests v).notices = s.notices := rfl
@[simp] theorem credited_setRequests (v : List Request) : (s.setRequests v).credited = s.credited := rfl
@[simp] theorem attention_setRequests (v : List Request) : (s.setRequests v).attention = s.attention := rfl
@[simp] theorem attnEn_setRequests (v : List Request) : (s.setRequests v).attnEn = s.attnEn := rfl
@[simp] theorem settings_setRequests (v : List Request) : (s.setRequests v).settings = s.settings := rfl
@[simp] theorem port_setRequests (v : List Request) : (s.setRequests v).port = s.port := rfl
@[simp] theorem cmd_setRequests (v : List Request) : (s.setRequests v).cmd = s.cmd := rfl
@[simp] theorem due_setRequests (v : List Request) : (s.setRequests v).due = s.due := rfl
@[simp] theorem pending_setRequests (v : List Request) : (s.setRequests v).pending = s.pending := rfl
@[simp] theorem setRequests_self : s.setRequests s.requests = s := rfl
@[simp] theorem setRequests_setRequests (v w : List Request) : (s.setRequests v).setRequests w = s.setRequests w := rfl

@[simp] theorem fg_setDeferred (v : List Deferred) : (s.setDeferred v).fg = s.fg := rfl
@[simp] theorem slots_setDeferred (v : List Deferred) : (s.setDeferred v).slots = s.slots := rfl
@[simp] theorem leases_setDeferred (v : List Deferred) : (s.setDeferred v).leases = s.leases := rfl
@[simp] theorem engine_setDeferred (v : List Deferred) : (s.setDeferred v).engine = s.engine := rfl
@[simp] theorem requests_setDeferred (v : List Deferred) : (s.setDeferred v).requests = s.requests := rfl
@[simp] theorem deferred_setDeferred (v : List Deferred) : (s.setDeferred v).deferred = v := rfl
@[simp] theorem worker_setDeferred (v : List Deferred) : (s.setDeferred v).worker = s.worker := rfl
@[simp] theorem roster_setDeferred (v : List Deferred) : (s.setDeferred v).roster = s.roster := rfl
@[simp] theorem turnPointer_setDeferred (v : List Deferred) : (s.setDeferred v).turnPointer = s.turnPointer := rfl
@[simp] theorem uplink_setDeferred (v : List Deferred) : (s.setDeferred v).uplink = s.uplink := rfl
@[simp] theorem notices_setDeferred (v : List Deferred) : (s.setDeferred v).notices = s.notices := rfl
@[simp] theorem credited_setDeferred (v : List Deferred) : (s.setDeferred v).credited = s.credited := rfl
@[simp] theorem attention_setDeferred (v : List Deferred) : (s.setDeferred v).attention = s.attention := rfl
@[simp] theorem attnEn_setDeferred (v : List Deferred) : (s.setDeferred v).attnEn = s.attnEn := rfl
@[simp] theorem settings_setDeferred (v : List Deferred) : (s.setDeferred v).settings = s.settings := rfl
@[simp] theorem port_setDeferred (v : List Deferred) : (s.setDeferred v).port = s.port := rfl
@[simp] theorem cmd_setDeferred (v : List Deferred) : (s.setDeferred v).cmd = s.cmd := rfl
@[simp] theorem due_setDeferred (v : List Deferred) : (s.setDeferred v).due = s.due := rfl
@[simp] theorem pending_setDeferred (v : List Deferred) : (s.setDeferred v).pending = s.pending := rfl
@[simp] theorem setDeferred_self : s.setDeferred s.deferred = s := rfl
@[simp] theorem setDeferred_setDeferred (v w : List Deferred) : (s.setDeferred v).setDeferred w = s.setDeferred w := rfl

@[simp] theorem fg_setWorker (v : Worker) : (s.setWorker v).fg = s.fg := rfl
@[simp] theorem slots_setWorker (v : Worker) : (s.setWorker v).slots = s.slots := rfl
@[simp] theorem leases_setWorker (v : Worker) : (s.setWorker v).leases = s.leases := rfl
@[simp] theorem engine_setWorker (v : Worker) : (s.setWorker v).engine = s.engine := rfl
@[simp] theorem requests_setWorker (v : Worker) : (s.setWorker v).requests = s.requests := rfl
@[simp] theorem deferred_setWorker (v : Worker) : (s.setWorker v).deferred = s.deferred := rfl
@[simp] theorem worker_setWorker (v : Worker) : (s.setWorker v).worker = v := rfl
@[simp] theorem roster_setWorker (v : Worker) : (s.setWorker v).roster = s.roster := rfl
@[simp] theorem turnPointer_setWorker (v : Worker) : (s.setWorker v).turnPointer = s.turnPointer := rfl
@[simp] theorem uplink_setWorker (v : Worker) : (s.setWorker v).uplink = s.uplink := rfl
@[simp] theorem notices_setWorker (v : Worker) : (s.setWorker v).notices = s.notices := rfl
@[simp] theorem credited_setWorker (v : Worker) : (s.setWorker v).credited = s.credited := rfl
@[simp] theorem attention_setWorker (v : Worker) : (s.setWorker v).attention = s.attention := rfl
@[simp] theorem attnEn_setWorker (v : Worker) : (s.setWorker v).attnEn = s.attnEn := rfl
@[simp] theorem settings_setWorker (v : Worker) : (s.setWorker v).settings = s.settings := rfl
@[simp] theorem port_setWorker (v : Worker) : (s.setWorker v).port = s.port := rfl
@[simp] theorem cmd_setWorker (v : Worker) : (s.setWorker v).cmd = s.cmd := rfl
@[simp] theorem due_setWorker (v : Worker) : (s.setWorker v).due = s.due := rfl
@[simp] theorem pending_setWorker (v : Worker) : (s.setWorker v).pending = s.pending := rfl
@[simp] theorem setWorker_self : s.setWorker s.worker = s := rfl
@[simp] theorem setWorker_setWorker (v w : Worker) : (s.setWorker v).setWorker w = s.setWorker w := rfl

@[simp] theorem fg_setRoster (v : Table RosterEntry 30) : (s.setRoster v).fg = s.fg := rfl
@[simp] theorem slots_setRoster (v : Table RosterEntry 30) : (s.setRoster v).slots = s.slots := rfl
@[simp] theorem leases_setRoster (v : Table RosterEntry 30) : (s.setRoster v).leases = s.leases := rfl
@[simp] theorem engine_setRoster (v : Table RosterEntry 30) : (s.setRoster v).engine = s.engine := rfl
@[simp] theorem requests_setRoster (v : Table RosterEntry 30) : (s.setRoster v).requests = s.requests := rfl
@[simp] theorem deferred_setRoster (v : Table RosterEntry 30) : (s.setRoster v).deferred = s.deferred := rfl
@[simp] theorem worker_setRoster (v : Table RosterEntry 30) : (s.setRoster v).worker = s.worker := rfl
@[simp] theorem roster_setRoster (v : Table RosterEntry 30) : (s.setRoster v).roster = v := rfl
@[simp] theorem turnPointer_setRoster (v : Table RosterEntry 30) : (s.setRoster v).turnPointer = s.turnPointer := rfl
@[simp] theorem uplink_setRoster (v : Table RosterEntry 30) : (s.setRoster v).uplink = s.uplink := rfl
@[simp] theorem notices_setRoster (v : Table RosterEntry 30) : (s.setRoster v).notices = s.notices := rfl
@[simp] theorem credited_setRoster (v : Table RosterEntry 30) : (s.setRoster v).credited = s.credited := rfl
@[simp] theorem attention_setRoster (v : Table RosterEntry 30) : (s.setRoster v).attention = s.attention := rfl
@[simp] theorem attnEn_setRoster (v : Table RosterEntry 30) : (s.setRoster v).attnEn = s.attnEn := rfl
@[simp] theorem settings_setRoster (v : Table RosterEntry 30) : (s.setRoster v).settings = s.settings := rfl
@[simp] theorem port_setRoster (v : Table RosterEntry 30) : (s.setRoster v).port = s.port := rfl
@[simp] theorem cmd_setRoster (v : Table RosterEntry 30) : (s.setRoster v).cmd = s.cmd := rfl
@[simp] theorem due_setRoster (v : Table RosterEntry 30) : (s.setRoster v).due = s.due := rfl
@[simp] theorem pending_setRoster (v : Table RosterEntry 30) : (s.setRoster v).pending = s.pending := rfl
@[simp] theorem setRoster_self : s.setRoster s.roster = s := rfl
@[simp] theorem setRoster_setRoster (v w : Table RosterEntry 30) : (s.setRoster v).setRoster w = s.setRoster w := rfl

@[simp] theorem fg_setTurnPointer (v : Nat) : (s.setTurnPointer v).fg = s.fg := rfl
@[simp] theorem slots_setTurnPointer (v : Nat) : (s.setTurnPointer v).slots = s.slots := rfl
@[simp] theorem leases_setTurnPointer (v : Nat) : (s.setTurnPointer v).leases = s.leases := rfl
@[simp] theorem engine_setTurnPointer (v : Nat) : (s.setTurnPointer v).engine = s.engine := rfl
@[simp] theorem requests_setTurnPointer (v : Nat) : (s.setTurnPointer v).requests = s.requests := rfl
@[simp] theorem deferred_setTurnPointer (v : Nat) : (s.setTurnPointer v).deferred = s.deferred := rfl
@[simp] theorem worker_setTurnPointer (v : Nat) : (s.setTurnPointer v).worker = s.worker := rfl
@[simp] theorem roster_setTurnPointer (v : Nat) : (s.setTurnPointer v).roster = s.roster := rfl
@[simp] theorem turnPointer_setTurnPointer (v : Nat) : (s.setTurnPointer v).turnPointer = v := rfl
@[simp] theorem uplink_setTurnPointer (v : Nat) : (s.setTurnPointer v).uplink = s.uplink := rfl
@[simp] theorem notices_setTurnPointer (v : Nat) : (s.setTurnPointer v).notices = s.notices := rfl
@[simp] theorem credited_setTurnPointer (v : Nat) : (s.setTurnPointer v).credited = s.credited := rfl
@[simp] theorem attention_setTurnPointer (v : Nat) : (s.setTurnPointer v).attention = s.attention := rfl
@[simp] theorem attnEn_setTurnPointer (v : Nat) : (s.setTurnPointer v).attnEn = s.attnEn := rfl
@[simp] theorem settings_setTurnPointer (v : Nat) : (s.setTurnPointer v).settings = s.settings := rfl
@[simp] theorem port_setTurnPointer (v : Nat) : (s.setTurnPointer v).port = s.port := rfl
@[simp] theorem cmd_setTurnPointer (v : Nat) : (s.setTurnPointer v).cmd = s.cmd := rfl
@[simp] theorem due_setTurnPointer (v : Nat) : (s.setTurnPointer v).due = s.due := rfl
@[simp] theorem pending_setTurnPointer (v : Nat) : (s.setTurnPointer v).pending = s.pending := rfl
@[simp] theorem setTurnPointer_self : s.setTurnPointer s.turnPointer = s := rfl
@[simp] theorem setTurnPointer_setTurnPointer (v w : Nat) : (s.setTurnPointer v).setTurnPointer w = s.setTurnPointer w := rfl

@[simp] theorem fg_setUplink (v : UplinkRx) : (s.setUplink v).fg = s.fg := rfl
@[simp] theorem slots_setUplink (v : UplinkRx) : (s.setUplink v).slots = s.slots := rfl
@[simp] theorem leases_setUplink (v : UplinkRx) : (s.setUplink v).leases = s.leases := rfl
@[simp] theorem engine_setUplink (v : UplinkRx) : (s.setUplink v).engine = s.engine := rfl
@[simp] theorem requests_setUplink (v : UplinkRx) : (s.setUplink v).requests = s.requests := rfl
@[simp] theorem deferred_setUplink (v : UplinkRx) : (s.setUplink v).deferred = s.deferred := rfl
@[simp] theorem worker_setUplink (v : UplinkRx) : (s.setUplink v).worker = s.worker := rfl
@[simp] theorem roster_setUplink (v : UplinkRx) : (s.setUplink v).roster = s.roster := rfl
@[simp] theorem turnPointer_setUplink (v : UplinkRx) : (s.setUplink v).turnPointer = s.turnPointer := rfl
@[simp] theorem uplink_setUplink (v : UplinkRx) : (s.setUplink v).uplink = v := rfl
@[simp] theorem notices_setUplink (v : UplinkRx) : (s.setUplink v).notices = s.notices := rfl
@[simp] theorem credited_setUplink (v : UplinkRx) : (s.setUplink v).credited = s.credited := rfl
@[simp] theorem attention_setUplink (v : UplinkRx) : (s.setUplink v).attention = s.attention := rfl
@[simp] theorem attnEn_setUplink (v : UplinkRx) : (s.setUplink v).attnEn = s.attnEn := rfl
@[simp] theorem settings_setUplink (v : UplinkRx) : (s.setUplink v).settings = s.settings := rfl
@[simp] theorem port_setUplink (v : UplinkRx) : (s.setUplink v).port = s.port := rfl
@[simp] theorem cmd_setUplink (v : UplinkRx) : (s.setUplink v).cmd = s.cmd := rfl
@[simp] theorem due_setUplink (v : UplinkRx) : (s.setUplink v).due = s.due := rfl
@[simp] theorem pending_setUplink (v : UplinkRx) : (s.setUplink v).pending = s.pending := rfl
@[simp] theorem setUplink_self : s.setUplink s.uplink = s := rfl
@[simp] theorem setUplink_setUplink (v w : UplinkRx) : (s.setUplink v).setUplink w = s.setUplink w := rfl

@[simp] theorem fg_setNotices (v : List QueuedNotice) : (s.setNotices v).fg = s.fg := rfl
@[simp] theorem slots_setNotices (v : List QueuedNotice) : (s.setNotices v).slots = s.slots := rfl
@[simp] theorem leases_setNotices (v : List QueuedNotice) : (s.setNotices v).leases = s.leases := rfl
@[simp] theorem engine_setNotices (v : List QueuedNotice) : (s.setNotices v).engine = s.engine := rfl
@[simp] theorem requests_setNotices (v : List QueuedNotice) : (s.setNotices v).requests = s.requests := rfl
@[simp] theorem deferred_setNotices (v : List QueuedNotice) : (s.setNotices v).deferred = s.deferred := rfl
@[simp] theorem worker_setNotices (v : List QueuedNotice) : (s.setNotices v).worker = s.worker := rfl
@[simp] theorem roster_setNotices (v : List QueuedNotice) : (s.setNotices v).roster = s.roster := rfl
@[simp] theorem turnPointer_setNotices (v : List QueuedNotice) : (s.setNotices v).turnPointer = s.turnPointer := rfl
@[simp] theorem uplink_setNotices (v : List QueuedNotice) : (s.setNotices v).uplink = s.uplink := rfl
@[simp] theorem notices_setNotices (v : List QueuedNotice) : (s.setNotices v).notices = v := rfl
@[simp] theorem credited_setNotices (v : List QueuedNotice) : (s.setNotices v).credited = s.credited := rfl
@[simp] theorem attention_setNotices (v : List QueuedNotice) : (s.setNotices v).attention = s.attention := rfl
@[simp] theorem attnEn_setNotices (v : List QueuedNotice) : (s.setNotices v).attnEn = s.attnEn := rfl
@[simp] theorem settings_setNotices (v : List QueuedNotice) : (s.setNotices v).settings = s.settings := rfl
@[simp] theorem port_setNotices (v : List QueuedNotice) : (s.setNotices v).port = s.port := rfl
@[simp] theorem cmd_setNotices (v : List QueuedNotice) : (s.setNotices v).cmd = s.cmd := rfl
@[simp] theorem due_setNotices (v : List QueuedNotice) : (s.setNotices v).due = s.due := rfl
@[simp] theorem pending_setNotices (v : List QueuedNotice) : (s.setNotices v).pending = s.pending := rfl
@[simp] theorem setNotices_self : s.setNotices s.notices = s := rfl
@[simp] theorem setNotices_setNotices (v w : List QueuedNotice) : (s.setNotices v).setNotices w = s.setNotices w := rfl

@[simp] theorem fg_setCredited (v : Table Bool 32) : (s.setCredited v).fg = s.fg := rfl
@[simp] theorem slots_setCredited (v : Table Bool 32) : (s.setCredited v).slots = s.slots := rfl
@[simp] theorem leases_setCredited (v : Table Bool 32) : (s.setCredited v).leases = s.leases := rfl
@[simp] theorem engine_setCredited (v : Table Bool 32) : (s.setCredited v).engine = s.engine := rfl
@[simp] theorem requests_setCredited (v : Table Bool 32) : (s.setCredited v).requests = s.requests := rfl
@[simp] theorem deferred_setCredited (v : Table Bool 32) : (s.setCredited v).deferred = s.deferred := rfl
@[simp] theorem worker_setCredited (v : Table Bool 32) : (s.setCredited v).worker = s.worker := rfl
@[simp] theorem roster_setCredited (v : Table Bool 32) : (s.setCredited v).roster = s.roster := rfl
@[simp] theorem turnPointer_setCredited (v : Table Bool 32) : (s.setCredited v).turnPointer = s.turnPointer := rfl
@[simp] theorem uplink_setCredited (v : Table Bool 32) : (s.setCredited v).uplink = s.uplink := rfl
@[simp] theorem notices_setCredited (v : Table Bool 32) : (s.setCredited v).notices = s.notices := rfl
@[simp] theorem credited_setCredited (v : Table Bool 32) : (s.setCredited v).credited = v := rfl
@[simp] theorem attention_setCredited (v : Table Bool 32) : (s.setCredited v).attention = s.attention := rfl
@[simp] theorem attnEn_setCredited (v : Table Bool 32) : (s.setCredited v).attnEn = s.attnEn := rfl
@[simp] theorem settings_setCredited (v : Table Bool 32) : (s.setCredited v).settings = s.settings := rfl
@[simp] theorem port_setCredited (v : Table Bool 32) : (s.setCredited v).port = s.port := rfl
@[simp] theorem cmd_setCredited (v : Table Bool 32) : (s.setCredited v).cmd = s.cmd := rfl
@[simp] theorem due_setCredited (v : Table Bool 32) : (s.setCredited v).due = s.due := rfl
@[simp] theorem pending_setCredited (v : Table Bool 32) : (s.setCredited v).pending = s.pending := rfl
@[simp] theorem setCredited_self : s.setCredited s.credited = s := rfl
@[simp] theorem setCredited_setCredited (v w : Table Bool 32) : (s.setCredited v).setCredited w = s.setCredited w := rfl

@[simp] theorem fg_setAttention (v : BitVec 10) : (s.setAttention v).fg = s.fg := rfl
@[simp] theorem slots_setAttention (v : BitVec 10) : (s.setAttention v).slots = s.slots := rfl
@[simp] theorem leases_setAttention (v : BitVec 10) : (s.setAttention v).leases = s.leases := rfl
@[simp] theorem engine_setAttention (v : BitVec 10) : (s.setAttention v).engine = s.engine := rfl
@[simp] theorem requests_setAttention (v : BitVec 10) : (s.setAttention v).requests = s.requests := rfl
@[simp] theorem deferred_setAttention (v : BitVec 10) : (s.setAttention v).deferred = s.deferred := rfl
@[simp] theorem worker_setAttention (v : BitVec 10) : (s.setAttention v).worker = s.worker := rfl
@[simp] theorem roster_setAttention (v : BitVec 10) : (s.setAttention v).roster = s.roster := rfl
@[simp] theorem turnPointer_setAttention (v : BitVec 10) : (s.setAttention v).turnPointer = s.turnPointer := rfl
@[simp] theorem uplink_setAttention (v : BitVec 10) : (s.setAttention v).uplink = s.uplink := rfl
@[simp] theorem notices_setAttention (v : BitVec 10) : (s.setAttention v).notices = s.notices := rfl
@[simp] theorem credited_setAttention (v : BitVec 10) : (s.setAttention v).credited = s.credited := rfl
@[simp] theorem attention_setAttention (v : BitVec 10) : (s.setAttention v).attention = v := rfl
@[simp] theorem attnEn_setAttention (v : BitVec 10) : (s.setAttention v).attnEn = s.attnEn := rfl
@[simp] theorem settings_setAttention (v : BitVec 10) : (s.setAttention v).settings = s.settings := rfl
@[simp] theorem port_setAttention (v : BitVec 10) : (s.setAttention v).port = s.port := rfl
@[simp] theorem cmd_setAttention (v : BitVec 10) : (s.setAttention v).cmd = s.cmd := rfl
@[simp] theorem due_setAttention (v : BitVec 10) : (s.setAttention v).due = s.due := rfl
@[simp] theorem pending_setAttention (v : BitVec 10) : (s.setAttention v).pending = s.pending := rfl
@[simp] theorem setAttention_self : s.setAttention s.attention = s := rfl
@[simp] theorem setAttention_setAttention (v w : BitVec 10) : (s.setAttention v).setAttention w = s.setAttention w := rfl

@[simp] theorem fg_setAttnEn (v : BitVec 10) : (s.setAttnEn v).fg = s.fg := rfl
@[simp] theorem slots_setAttnEn (v : BitVec 10) : (s.setAttnEn v).slots = s.slots := rfl
@[simp] theorem leases_setAttnEn (v : BitVec 10) : (s.setAttnEn v).leases = s.leases := rfl
@[simp] theorem engine_setAttnEn (v : BitVec 10) : (s.setAttnEn v).engine = s.engine := rfl
@[simp] theorem requests_setAttnEn (v : BitVec 10) : (s.setAttnEn v).requests = s.requests := rfl
@[simp] theorem deferred_setAttnEn (v : BitVec 10) : (s.setAttnEn v).deferred = s.deferred := rfl
@[simp] theorem worker_setAttnEn (v : BitVec 10) : (s.setAttnEn v).worker = s.worker := rfl
@[simp] theorem roster_setAttnEn (v : BitVec 10) : (s.setAttnEn v).roster = s.roster := rfl
@[simp] theorem turnPointer_setAttnEn (v : BitVec 10) : (s.setAttnEn v).turnPointer = s.turnPointer := rfl
@[simp] theorem uplink_setAttnEn (v : BitVec 10) : (s.setAttnEn v).uplink = s.uplink := rfl
@[simp] theorem notices_setAttnEn (v : BitVec 10) : (s.setAttnEn v).notices = s.notices := rfl
@[simp] theorem credited_setAttnEn (v : BitVec 10) : (s.setAttnEn v).credited = s.credited := rfl
@[simp] theorem attention_setAttnEn (v : BitVec 10) : (s.setAttnEn v).attention = s.attention := rfl
@[simp] theorem attnEn_setAttnEn (v : BitVec 10) : (s.setAttnEn v).attnEn = v := rfl
@[simp] theorem settings_setAttnEn (v : BitVec 10) : (s.setAttnEn v).settings = s.settings := rfl
@[simp] theorem port_setAttnEn (v : BitVec 10) : (s.setAttnEn v).port = s.port := rfl
@[simp] theorem cmd_setAttnEn (v : BitVec 10) : (s.setAttnEn v).cmd = s.cmd := rfl
@[simp] theorem due_setAttnEn (v : BitVec 10) : (s.setAttnEn v).due = s.due := rfl
@[simp] theorem pending_setAttnEn (v : BitVec 10) : (s.setAttnEn v).pending = s.pending := rfl
@[simp] theorem setAttnEn_self : s.setAttnEn s.attnEn = s := rfl
@[simp] theorem setAttnEn_setAttnEn (v w : BitVec 10) : (s.setAttnEn v).setAttnEn w = s.setAttnEn w := rfl

@[simp] theorem fg_setSettings (v : Settings) : (s.setSettings v).fg = s.fg := rfl
@[simp] theorem slots_setSettings (v : Settings) : (s.setSettings v).slots = s.slots := rfl
@[simp] theorem leases_setSettings (v : Settings) : (s.setSettings v).leases = s.leases := rfl
@[simp] theorem engine_setSettings (v : Settings) : (s.setSettings v).engine = s.engine := rfl
@[simp] theorem requests_setSettings (v : Settings) : (s.setSettings v).requests = s.requests := rfl
@[simp] theorem deferred_setSettings (v : Settings) : (s.setSettings v).deferred = s.deferred := rfl
@[simp] theorem worker_setSettings (v : Settings) : (s.setSettings v).worker = s.worker := rfl
@[simp] theorem roster_setSettings (v : Settings) : (s.setSettings v).roster = s.roster := rfl
@[simp] theorem turnPointer_setSettings (v : Settings) : (s.setSettings v).turnPointer = s.turnPointer := rfl
@[simp] theorem uplink_setSettings (v : Settings) : (s.setSettings v).uplink = s.uplink := rfl
@[simp] theorem notices_setSettings (v : Settings) : (s.setSettings v).notices = s.notices := rfl
@[simp] theorem credited_setSettings (v : Settings) : (s.setSettings v).credited = s.credited := rfl
@[simp] theorem attention_setSettings (v : Settings) : (s.setSettings v).attention = s.attention := rfl
@[simp] theorem attnEn_setSettings (v : Settings) : (s.setSettings v).attnEn = s.attnEn := rfl
@[simp] theorem settings_setSettings (v : Settings) : (s.setSettings v).settings = v := rfl
@[simp] theorem port_setSettings (v : Settings) : (s.setSettings v).port = s.port := rfl
@[simp] theorem cmd_setSettings (v : Settings) : (s.setSettings v).cmd = s.cmd := rfl
@[simp] theorem due_setSettings (v : Settings) : (s.setSettings v).due = s.due := rfl
@[simp] theorem pending_setSettings (v : Settings) : (s.setSettings v).pending = s.pending := rfl
@[simp] theorem setSettings_self : s.setSettings s.settings = s := rfl
@[simp] theorem setSettings_setSettings (v w : Settings) : (s.setSettings v).setSettings w = s.setSettings w := rfl

@[simp] theorem fg_setPort (v : Port) : (s.setPort v).fg = s.fg := rfl
@[simp] theorem slots_setPort (v : Port) : (s.setPort v).slots = s.slots := rfl
@[simp] theorem leases_setPort (v : Port) : (s.setPort v).leases = s.leases := rfl
@[simp] theorem engine_setPort (v : Port) : (s.setPort v).engine = s.engine := rfl
@[simp] theorem requests_setPort (v : Port) : (s.setPort v).requests = s.requests := rfl
@[simp] theorem deferred_setPort (v : Port) : (s.setPort v).deferred = s.deferred := rfl
@[simp] theorem worker_setPort (v : Port) : (s.setPort v).worker = s.worker := rfl
@[simp] theorem roster_setPort (v : Port) : (s.setPort v).roster = s.roster := rfl
@[simp] theorem turnPointer_setPort (v : Port) : (s.setPort v).turnPointer = s.turnPointer := rfl
@[simp] theorem uplink_setPort (v : Port) : (s.setPort v).uplink = s.uplink := rfl
@[simp] theorem notices_setPort (v : Port) : (s.setPort v).notices = s.notices := rfl
@[simp] theorem credited_setPort (v : Port) : (s.setPort v).credited = s.credited := rfl
@[simp] theorem attention_setPort (v : Port) : (s.setPort v).attention = s.attention := rfl
@[simp] theorem attnEn_setPort (v : Port) : (s.setPort v).attnEn = s.attnEn := rfl
@[simp] theorem settings_setPort (v : Port) : (s.setPort v).settings = s.settings := rfl
@[simp] theorem port_setPort (v : Port) : (s.setPort v).port = v := rfl
@[simp] theorem cmd_setPort (v : Port) : (s.setPort v).cmd = s.cmd := rfl
@[simp] theorem due_setPort (v : Port) : (s.setPort v).due = s.due := rfl
@[simp] theorem pending_setPort (v : Port) : (s.setPort v).pending = s.pending := rfl
@[simp] theorem setPort_self : s.setPort s.port = s := rfl
@[simp] theorem setPort_setPort (v w : Port) : (s.setPort v).setPort w = s.setPort w := rfl

@[simp] theorem fg_setCmd (v : CommandUnit) : (s.setCmd v).fg = s.fg := rfl
@[simp] theorem slots_setCmd (v : CommandUnit) : (s.setCmd v).slots = s.slots := rfl
@[simp] theorem leases_setCmd (v : CommandUnit) : (s.setCmd v).leases = s.leases := rfl
@[simp] theorem engine_setCmd (v : CommandUnit) : (s.setCmd v).engine = s.engine := rfl
@[simp] theorem requests_setCmd (v : CommandUnit) : (s.setCmd v).requests = s.requests := rfl
@[simp] theorem deferred_setCmd (v : CommandUnit) : (s.setCmd v).deferred = s.deferred := rfl
@[simp] theorem worker_setCmd (v : CommandUnit) : (s.setCmd v).worker = s.worker := rfl
@[simp] theorem roster_setCmd (v : CommandUnit) : (s.setCmd v).roster = s.roster := rfl
@[simp] theorem turnPointer_setCmd (v : CommandUnit) : (s.setCmd v).turnPointer = s.turnPointer := rfl
@[simp] theorem uplink_setCmd (v : CommandUnit) : (s.setCmd v).uplink = s.uplink := rfl
@[simp] theorem notices_setCmd (v : CommandUnit) : (s.setCmd v).notices = s.notices := rfl
@[simp] theorem credited_setCmd (v : CommandUnit) : (s.setCmd v).credited = s.credited := rfl
@[simp] theorem attention_setCmd (v : CommandUnit) : (s.setCmd v).attention = s.attention := rfl
@[simp] theorem attnEn_setCmd (v : CommandUnit) : (s.setCmd v).attnEn = s.attnEn := rfl
@[simp] theorem settings_setCmd (v : CommandUnit) : (s.setCmd v).settings = s.settings := rfl
@[simp] theorem port_setCmd (v : CommandUnit) : (s.setCmd v).port = s.port := rfl
@[simp] theorem cmd_setCmd (v : CommandUnit) : (s.setCmd v).cmd = v := rfl
@[simp] theorem due_setCmd (v : CommandUnit) : (s.setCmd v).due = s.due := rfl
@[simp] theorem pending_setCmd (v : CommandUnit) : (s.setCmd v).pending = s.pending := rfl
@[simp] theorem setCmd_self : s.setCmd s.cmd = s := rfl
@[simp] theorem setCmd_setCmd (v w : CommandUnit) : (s.setCmd v).setCmd w = s.setCmd w := rfl

@[simp] theorem fg_setDue (v : Due) : (s.setDue v).fg = s.fg := rfl
@[simp] theorem slots_setDue (v : Due) : (s.setDue v).slots = s.slots := rfl
@[simp] theorem leases_setDue (v : Due) : (s.setDue v).leases = s.leases := rfl
@[simp] theorem engine_setDue (v : Due) : (s.setDue v).engine = s.engine := rfl
@[simp] theorem requests_setDue (v : Due) : (s.setDue v).requests = s.requests := rfl
@[simp] theorem deferred_setDue (v : Due) : (s.setDue v).deferred = s.deferred := rfl
@[simp] theorem worker_setDue (v : Due) : (s.setDue v).worker = s.worker := rfl
@[simp] theorem roster_setDue (v : Due) : (s.setDue v).roster = s.roster := rfl
@[simp] theorem turnPointer_setDue (v : Due) : (s.setDue v).turnPointer = s.turnPointer := rfl
@[simp] theorem uplink_setDue (v : Due) : (s.setDue v).uplink = s.uplink := rfl
@[simp] theorem notices_setDue (v : Due) : (s.setDue v).notices = s.notices := rfl
@[simp] theorem credited_setDue (v : Due) : (s.setDue v).credited = s.credited := rfl
@[simp] theorem attention_setDue (v : Due) : (s.setDue v).attention = s.attention := rfl
@[simp] theorem attnEn_setDue (v : Due) : (s.setDue v).attnEn = s.attnEn := rfl
@[simp] theorem settings_setDue (v : Due) : (s.setDue v).settings = s.settings := rfl
@[simp] theorem port_setDue (v : Due) : (s.setDue v).port = s.port := rfl
@[simp] theorem cmd_setDue (v : Due) : (s.setDue v).cmd = s.cmd := rfl
@[simp] theorem due_setDue (v : Due) : (s.setDue v).due = v := rfl
@[simp] theorem pending_setDue (v : Due) : (s.setDue v).pending = s.pending := rfl
@[simp] theorem setDue_self : s.setDue s.due = s := rfl
@[simp] theorem setDue_setDue (v w : Due) : (s.setDue v).setDue w = s.setDue w := rfl

@[simp] theorem fg_setPending (v : List Instr) : (s.setPending v).fg = s.fg := rfl
@[simp] theorem slots_setPending (v : List Instr) : (s.setPending v).slots = s.slots := rfl
@[simp] theorem leases_setPending (v : List Instr) : (s.setPending v).leases = s.leases := rfl
@[simp] theorem engine_setPending (v : List Instr) : (s.setPending v).engine = s.engine := rfl
@[simp] theorem requests_setPending (v : List Instr) : (s.setPending v).requests = s.requests := rfl
@[simp] theorem deferred_setPending (v : List Instr) : (s.setPending v).deferred = s.deferred := rfl
@[simp] theorem worker_setPending (v : List Instr) : (s.setPending v).worker = s.worker := rfl
@[simp] theorem roster_setPending (v : List Instr) : (s.setPending v).roster = s.roster := rfl
@[simp] theorem turnPointer_setPending (v : List Instr) : (s.setPending v).turnPointer = s.turnPointer := rfl
@[simp] theorem uplink_setPending (v : List Instr) : (s.setPending v).uplink = s.uplink := rfl
@[simp] theorem notices_setPending (v : List Instr) : (s.setPending v).notices = s.notices := rfl
@[simp] theorem credited_setPending (v : List Instr) : (s.setPending v).credited = s.credited := rfl
@[simp] theorem attention_setPending (v : List Instr) : (s.setPending v).attention = s.attention := rfl
@[simp] theorem attnEn_setPending (v : List Instr) : (s.setPending v).attnEn = s.attnEn := rfl
@[simp] theorem settings_setPending (v : List Instr) : (s.setPending v).settings = s.settings := rfl
@[simp] theorem port_setPending (v : List Instr) : (s.setPending v).port = s.port := rfl
@[simp] theorem cmd_setPending (v : List Instr) : (s.setPending v).cmd = s.cmd := rfl
@[simp] theorem due_setPending (v : List Instr) : (s.setPending v).due = s.due := rfl
@[simp] theorem pending_setPending (v : List Instr) : (s.setPending v).pending = v := rfl
@[simp] theorem setPending_self : s.setPending s.pending = s := rfl
@[simp] theorem setPending_setPending (v w : List Instr) : (s.setPending v).setPending w = s.setPending w := rfl

/-- Two states with equal fields are equal. -/
theorem ext_fields {s t : State} (h_fg : s.fg = t.fg) (h_slots : s.slots = t.slots) (h_leases : s.leases = t.leases) (h_engine : s.engine = t.engine) (h_requests : s.requests = t.requests) (h_deferred : s.deferred = t.deferred)
    (h_worker : s.worker = t.worker) (h_roster : s.roster = t.roster) (h_turnPointer : s.turnPointer = t.turnPointer) (h_uplink : s.uplink = t.uplink) (h_notices : s.notices = t.notices) (h_credited : s.credited = t.credited)
    (h_attention : s.attention = t.attention) (h_attnEn : s.attnEn = t.attnEn) (h_settings : s.settings = t.settings) (h_port : s.port = t.port) (h_cmd : s.cmd = t.cmd) (h_due : s.due = t.due) (h_pending : s.pending = t.pending) : s = t := by
  cases s; cases t; simp_all

end Sys2Proof.Machine.State
end

