-- ==== Sys2Proof/Laws/Ops.lean ====
section
/-!
SUPPORT. What each shared operation does, said once: tables and position records, the notice queue, the reports of a
retirement, and what an operation with branches leaves unchanged.
-/
namespace Sys2Proof

namespace Table

variable {α : Type} {n : Nat}

/-- Tables with equal records are equal. -/
theorem ext_cells {t u : Table α n} (h : t.cells = u.cells) : t = u := by
  cases t; cases u; simp_all

theorem get_eq_getElem? (t : Table α n) (i : Fin n) : t.cells[i.val]? = some (t.get i) := by
  have h : i.val < t.cells.length := by rw [t.size]; exact i.isLt
  simp [get, List.getElem?_eq_getElem h]

@[simp] theorem get_set_eq (t : Table α n) (i : Fin n) (a : α) : (t.set i a).get i = a := by
  simp [get, set]

theorem get_set_ne (t : Table α n) {i j : Fin n} (a : α) (h : j ≠ i) : (t.set i a).get j = t.get j := by
  have : i.val ≠ j.val := fun e => h (Fin.ext e.symm)
  simp [get, set, List.getElem_set_ne this]

@[simp] theorem get_replicate (a : α) (i : Fin n) : (Table.replicate n a).get i = a := by
  simp [get, replicate]

end Table

/-- A record of a mapped list. -/
theorem getElem?_mapFrom {α : Type} (f : Nat → α → α) (k : Nat) (l : List α) (m : Nat) :
    (mapFrom f k l)[m]? = l[m]?.map (f (k + m)) := by
  induction l generalizing k m with
  | nil => simp [mapFrom]
  | cons a as ih =>
    cases m with
    | zero => simp [mapFrom]
    | succ m => simp [mapFrom, ih, Nat.add_assoc, Nat.add_comm 1 m]

/-- A record of a mapped table. -/
theorem Table.get_mapFrom {α : Type} {n : Nat} (f : Nat → α → α) (k : Nat) (t : Table α n) (i : Fin n) :
    (t.mapFrom f k).get i = f (k + i.val) (t.get i) := by
  have h := getElem?_mapFrom f k t.cells i.val
  have h1 := Table.get_eq_getElem? (t.mapFrom f k) i
  rw [Table.get_eq_getElem? t i] at h
  change (t.mapFrom f k).cells[i.val]? = _ at h
  rw [h1] at h
  simpa using h

namespace Machine.State

variable (s : State)

/-! ### Position records -/

/-- What a change of every position record does to one of them. -/
theorem slotAt_mapSlots (f : Nat → Slot → Slot) (p : Nat) : (s.mapSlots f).slotAt p = (s.slotAt p).map (f p) := by
  unfold slotAt mapSlots
  by_cases h : p < Config.firstLeasable
  · simp [h]
  · simp only [h, if_false, slots_setSlots]
    change (mapFrom f Config.firstLeasable s.slots.cells)[p - Config.firstLeasable]? = _
    rw [getElem?_mapFrom, Nat.add_sub_cancel' (Nat.le_of_not_lt h)]

/-- Overhead positions have no record (02, R26). -/
theorem slotAt_overhead {p : Nat} (h : p < 10) : s.slotAt p = none := by
  simp [slotAt, Config.firstLeasable, h]

/-- Every leasable position has a record (02, R26). -/
theorem slotAt_isSome {p : Nat} (h : 10 ≤ p) (h' : p < 64) : (s.slotAt p).isSome = true := by
  have : ¬ p < Config.firstLeasable := by simp [Config.firstLeasable]; omega
  have hl : p - Config.firstLeasable < s.slots.cells.length := by rw [s.slots.size]; simp [Config.firstLeasable]; omega
  simp [slotAt, this, List.getElem?_eq_getElem hl]

/-! ### Normal forms of the operations with branches -/

/-- A flag raised under a condition changes the flags only. -/
theorem raiseIf_form (b : Bool) (c : Cause) :
    s.raiseIf b c = s.setAttention (if b then s.attention ||| c.mask else s.attention) := by
  cases b <;> rfl

/-- A submission changes the notice queue, or the flags at a full queue (08, R165). -/
theorem submit_form (q : QueuedNotice) :
    s.submit q = (s.setNotices (if s.notices.length < 16 then s.notices ++ [q] else s.notices)).setAttention
      (if s.notices.length < 16 then s.attention else s.attention ||| Cause.noticeDrop.mask) := by
  unfold submit raise Config.noticeCapacity
  split <;> rfl

/-- A submission with room joins the tail. -/
theorem submit_room {q : QueuedNotice} (h : s.notices.length < 16) : s.submit q = s.setNotices (s.notices ++ [q]) := by
  simp [submit, Config.noticeCapacity, h]

/-- A submission at a full queue is dropped. -/
theorem submit_full {q : QueuedNotice} (h : 16 ≤ s.notices.length) : s.submit q = s.raise .noticeDrop := by
  simp [submit, Config.noticeCapacity, Nat.not_lt.mpr h]

/-- Space freed changes the deferred-reconsider flag only (02, R39). -/
theorem noteSpaceFreed_form (before : Table Slot 54) :
    s.noteSpaceFreed before =
      s.setEngine { s.engine with reconsider := s.engine.reconsider || someFreed before s.slots } := by
  unfold noteSpaceFreed setReconsider
  cases h : someFreed before s.slots
  · simp [setEngine]
  · simp

/-! ### The until of the positions that a lease owns (01, R10, R19; 02, R36) -/

/-- Without a SENT move it is that of the end frame. -/
theorem ownerWord_of_unsent {l : Lease} (now : Frame) (d : BitVec 4) (h : ∀ m, l.move = some m → m.effect = none) :
    l.ownerWord now d = l.untilWord now := by
  unfold Lease.ownerWord
  split
  · rename_i m hm; exact absurd (h _ hm) (by simp)
  · rfl

/-- With a SENT move it is the effect frame wherever that is earlier (06, R118; notes/assumptions/31.md). -/
theorem ownerWord_of_sent {l : Lease} (now : Frame) (d : BitVec 4) {p : Pos} {m st e : Frame}
    (hm : l.move = some ⟨p, some m⟩) (hs : l.startFrame = some st) (he : l.endFrame = some e) :
    l.ownerWord now d = if l.movesBefore d st m e then some m else l.untilWord now := by
  simp [Lease.ownerWord, hm, hs, he]

/-! ### Settling -/

/-- With nothing outstanding, settling changes nothing (03, R54). -/
theorem settle_of_quiet (h : s.due = Due.nothing) : s.settle = s := by
  cases s
  simp only at h
  subst h
  rfl

end Machine.State

end Sys2Proof
end

