-- ==== Sys2Proof/Laws/Frames.lean ====
section
/-!
SUPPORT. The frames of the shared operations: for each operation, one lemma for each field that it leaves unchanged.
-/
namespace Sys2Proof.Machine.State

variable (s : State)

@[simp] theorem fg_raise (c : Cause) : (s.raise c).fg = s.fg := rfl
@[simp] theorem slots_raise (c : Cause) : (s.raise c).slots = s.slots := rfl
@[simp] theorem leases_raise (c : Cause) : (s.raise c).leases = s.leases := rfl
@[simp] theorem engine_raise (c : Cause) : (s.raise c).engine = s.engine := rfl
@[simp] theorem requests_raise (c : Cause) : (s.raise c).requests = s.requests := rfl
@[simp] theorem deferred_raise (c : Cause) : (s.raise c).deferred = s.deferred := rfl
@[simp] theorem worker_raise (c : Cause) : (s.raise c).worker = s.worker := rfl
@[simp] theorem roster_raise (c : Cause) : (s.raise c).roster = s.roster := rfl
@[simp] theorem turnPointer_raise (c : Cause) : (s.raise c).turnPointer = s.turnPointer := rfl
@[simp] theorem uplink_raise (c : Cause) : (s.raise c).uplink = s.uplink := rfl
@[simp] theorem notices_raise (c : Cause) : (s.raise c).notices = s.notices := rfl
@[simp] theorem credited_raise (c : Cause) : (s.raise c).credited = s.credited := rfl
@[simp] theorem attnEn_raise (c : Cause) : (s.raise c).attnEn = s.attnEn := rfl
@[simp] theorem settings_raise (c : Cause) : (s.raise c).settings = s.settings := rfl
@[simp] theorem port_raise (c : Cause) : (s.raise c).port = s.port := rfl
@[simp] theorem cmd_raise (c : Cause) : (s.raise c).cmd = s.cmd := rfl
@[simp] theorem due_raise (c : Cause) : (s.raise c).due = s.due := rfl
@[simp] theorem pending_raise (c : Cause) : (s.raise c).pending = s.pending := rfl

@[simp] theorem fg_raiseIf (b : Bool) (c : Cause) : (s.raiseIf b c).fg = s.fg := by
  unfold raiseIf
  repeat' split
  all_goals simp
@[simp] theorem slots_raiseIf (b : Bool) (c : Cause) : (s.raiseIf b c).slots = s.slots := by
  unfold raiseIf
  repeat' split
  all_goals simp
@[simp] theorem leases_raiseIf (b : Bool) (c : Cause) : (s.raiseIf b c).leases = s.leases := by
  unfold raiseIf
  repeat' split
  all_goals simp
@[simp] theorem engine_raiseIf (b : Bool) (c : Cause) : (s.raiseIf b c).engine = s.engine := by
  unfold raiseIf
  repeat' split
  all_goals simp
@[simp] theorem requests_raiseIf (b : Bool) (c : Cause) : (s.raiseIf b c).requests = s.requests := by
  unfold raiseIf
  repeat' split
  all_goals simp
@[simp] theorem deferred_raiseIf (b : Bool) (c : Cause) : (s.raiseIf b c).deferred = s.deferred := by
  unfold raiseIf
  repeat' split
  all_goals simp
@[simp] theorem worker_raiseIf (b : Bool) (c : Cause) : (s.raiseIf b c).worker = s.worker := by
  unfold raiseIf
  repeat' split
  all_goals simp
@[simp] theorem roster_raiseIf (b : Bool) (c : Cause) : (s.raiseIf b c).roster = s.roster := by
  unfold raiseIf
  repeat' split
  all_goals simp
@[simp] theorem turnPointer_raiseIf (b : Bool) (c : Cause) : (s.raiseIf b c).turnPointer = s.turnPointer := by
  unfold raiseIf
  repeat' split
  all_goals simp
@[simp] theorem uplink_raiseIf (b : Bool) (c : Cause) : (s.raiseIf b c).uplink = s.uplink := by
  unfold raiseIf
  repeat' split
  all_goals simp
@[simp] theorem notices_raiseIf (b : Bool) (c : Cause) : (s.raiseIf b c).notices = s.notices := by
  unfold raiseIf
  repeat' split
  all_goals simp
@[simp] theorem credited_raiseIf (b : Bool) (c : Cause) : (s.raiseIf b c).credited = s.credited := by
  unfold raiseIf
  repeat' split
  all_goals simp
@[simp] theorem attnEn_raiseIf (b : Bool) (c : Cause) : (s.raiseIf b c).attnEn = s.attnEn := by
  unfold raiseIf
  repeat' split
  all_goals simp
@[simp] theorem settings_raiseIf (b : Bool) (c : Cause) : (s.raiseIf b c).settings = s.settings := by
  unfold raiseIf
  repeat' split
  all_goals simp
@[simp] theorem port_raiseIf (b : Bool) (c : Cause) : (s.raiseIf b c).port = s.port := by
  unfold raiseIf
  repeat' split
  all_goals simp
@[simp] theorem cmd_raiseIf (b : Bool) (c : Cause) : (s.raiseIf b c).cmd = s.cmd := by
  unfold raiseIf
  repeat' split
  all_goals simp
@[simp] theorem due_raiseIf (b : Bool) (c : Cause) : (s.raiseIf b c).due = s.due := by
  unfold raiseIf
  repeat' split
  all_goals simp
@[simp] theorem pending_raiseIf (b : Bool) (c : Cause) : (s.raiseIf b c).pending = s.pending := by
  unfold raiseIf
  repeat' split
  all_goals simp

@[simp] theorem fg_mapSlots (f : Nat → Slot → Slot) : (s.mapSlots f).fg = s.fg := rfl
@[simp] theorem leases_mapSlots (f : Nat → Slot → Slot) : (s.mapSlots f).leases = s.leases := rfl
@[simp] theorem engine_mapSlots (f : Nat → Slot → Slot) : (s.mapSlots f).engine = s.engine := rfl
@[simp] theorem requests_mapSlots (f : Nat → Slot → Slot) : (s.mapSlots f).requests = s.requests := rfl
@[simp] theorem deferred_mapSlots (f : Nat → Slot → Slot) : (s.mapSlots f).deferred = s.deferred := rfl
@[simp] theorem worker_mapSlots (f : Nat → Slot → Slot) : (s.mapSlots f).worker = s.worker := rfl
@[simp] theorem roster_mapSlots (f : Nat → Slot → Slot) : (s.mapSlots f).roster = s.roster := rfl
@[simp] theorem turnPointer_mapSlots (f : Nat → Slot → Slot) : (s.mapSlots f).turnPointer = s.turnPointer := rfl
@[simp] theorem uplink_mapSlots (f : Nat → Slot → Slot) : (s.mapSlots f).uplink = s.uplink := rfl
@[simp] theorem notices_mapSlots (f : Nat → Slot → Slot) : (s.mapSlots f).notices = s.notices := rfl
@[simp] theorem credited_mapSlots (f : Nat → Slot → Slot) : (s.mapSlots f).credited = s.credited := rfl
@[simp] theorem attention_mapSlots (f : Nat → Slot → Slot) : (s.mapSlots f).attention = s.attention := rfl
@[simp] theorem attnEn_mapSlots (f : Nat → Slot → Slot) : (s.mapSlots f).attnEn = s.attnEn := rfl
@[simp] theorem settings_mapSlots (f : Nat → Slot → Slot) : (s.mapSlots f).settings = s.settings := rfl
@[simp] theorem port_mapSlots (f : Nat → Slot → Slot) : (s.mapSlots f).port = s.port := rfl
@[simp] theorem cmd_mapSlots (f : Nat → Slot → Slot) : (s.mapSlots f).cmd = s.cmd := rfl
@[simp] theorem due_mapSlots (f : Nat → Slot → Slot) : (s.mapSlots f).due = s.due := rfl
@[simp] theorem pending_mapSlots (f : Nat → Slot → Slot) : (s.mapSlots f).pending = s.pending := rfl

@[simp] theorem fg_setReconsider : (s.setReconsider).fg = s.fg := rfl
@[simp] theorem slots_setReconsider : (s.setReconsider).slots = s.slots := rfl
@[simp] theorem leases_setReconsider : (s.setReconsider).leases = s.leases := rfl
@[simp] theorem requests_setReconsider : (s.setReconsider).requests = s.requests := rfl
@[simp] theorem deferred_setReconsider : (s.setReconsider).deferred = s.deferred := rfl
@[simp] theorem worker_setReconsider : (s.setReconsider).worker = s.worker := rfl
@[simp] theorem roster_setReconsider : (s.setReconsider).roster = s.roster := rfl
@[simp] theorem turnPointer_setReconsider : (s.setReconsider).turnPointer = s.turnPointer := rfl
@[simp] theorem uplink_setReconsider : (s.setReconsider).uplink = s.uplink := rfl
@[simp] theorem notices_setReconsider : (s.setReconsider).notices = s.notices := rfl
@[simp] theorem credited_setReconsider : (s.setReconsider).credited = s.credited := rfl
@[simp] theorem attention_setReconsider : (s.setReconsider).attention = s.attention := rfl
@[simp] theorem attnEn_setReconsider : (s.setReconsider).attnEn = s.attnEn := rfl
@[simp] theorem settings_setReconsider : (s.setReconsider).settings = s.settings := rfl
@[simp] theorem port_setReconsider : (s.setReconsider).port = s.port := rfl
@[simp] theorem cmd_setReconsider : (s.setReconsider).cmd = s.cmd := rfl
@[simp] theorem due_setReconsider : (s.setReconsider).due = s.due := rfl
@[simp] theorem pending_setReconsider : (s.setReconsider).pending = s.pending := rfl

@[simp] theorem fg_noteSpaceFreed (b : Table Slot 54) : (s.noteSpaceFreed b).fg = s.fg := by
  unfold noteSpaceFreed
  repeat' split
  all_goals simp
@[simp] theorem slots_noteSpaceFreed (b : Table Slot 54) : (s.noteSpaceFreed b).slots = s.slots := by
  unfold noteSpaceFreed
  repeat' split
  all_goals simp
@[simp] theorem leases_noteSpaceFreed (b : Table Slot 54) : (s.noteSpaceFreed b).leases = s.leases := by
  unfold noteSpaceFreed
  repeat' split
  all_goals simp
@[simp] theorem requests_noteSpaceFreed (b : Table Slot 54) : (s.noteSpaceFreed b).requests = s.requests := by
  unfold noteSpaceFreed
  repeat' split
  all_goals simp
@[simp] theorem deferred_noteSpaceFreed (b : Table Slot 54) : (s.noteSpaceFreed b).deferred = s.deferred := by
  unfold noteSpaceFreed
  repeat' split
  all_goals simp
@[simp] theorem worker_noteSpaceFreed (b : Table Slot 54) : (s.noteSpaceFreed b).worker = s.worker := by
  unfold noteSpaceFreed
  repeat' split
  all_goals simp
@[simp] theorem roster_noteSpaceFreed (b : Table Slot 54) : (s.noteSpaceFreed b).roster = s.roster := by
  unfold noteSpaceFreed
  repeat' split
  all_goals simp
@[simp] theorem turnPointer_noteSpaceFreed (b : Table Slot 54) : (s.noteSpaceFreed b).turnPointer = s.turnPointer := by
  unfold noteSpaceFreed
  repeat' split
  all_goals simp
@[simp] theorem uplink_noteSpaceFreed (b : Table Slot 54) : (s.noteSpaceFreed b).uplink = s.uplink := by
  unfold noteSpaceFreed
  repeat' split
  all_goals simp
@[simp] theorem notices_noteSpaceFreed (b : Table Slot 54) : (s.noteSpaceFreed b).notices = s.notices := by
  unfold noteSpaceFreed
  repeat' split
  all_goals simp
@[simp] theorem credited_noteSpaceFreed (b : Table Slot 54) : (s.noteSpaceFreed b).credited = s.credited := by
  unfold noteSpaceFreed
  repeat' split
  all_goals simp
@[simp] theorem attention_noteSpaceFreed (b : Table Slot 54) : (s.noteSpaceFreed b).attention = s.attention := by
  unfold noteSpaceFreed
  repeat' split
  all_goals simp
@[simp] theorem attnEn_noteSpaceFreed (b : Table Slot 54) : (s.noteSpaceFreed b).attnEn = s.attnEn := by
  unfold noteSpaceFreed
  repeat' split
  all_goals simp
@[simp] theorem settings_noteSpaceFreed (b : Table Slot 54) : (s.noteSpaceFreed b).settings = s.settings := by
  unfold noteSpaceFreed
  repeat' split
  all_goals simp
@[simp] theorem port_noteSpaceFreed (b : Table Slot 54) : (s.noteSpaceFreed b).port = s.port := by
  unfold noteSpaceFreed
  repeat' split
  all_goals simp
@[simp] theorem cmd_noteSpaceFreed (b : Table Slot 54) : (s.noteSpaceFreed b).cmd = s.cmd := by
  unfold noteSpaceFreed
  repeat' split
  all_goals simp
@[simp] theorem due_noteSpaceFreed (b : Table Slot 54) : (s.noteSpaceFreed b).due = s.due := by
  unfold noteSpaceFreed
  repeat' split
  all_goals simp
@[simp] theorem pending_noteSpaceFreed (b : Table Slot 54) : (s.noteSpaceFreed b).pending = s.pending := by
  unfold noteSpaceFreed
  repeat' split
  all_goals simp

@[simp] theorem fg_removeIncoming (i : LeaseIdx) : (s.removeIncoming i).fg = s.fg := by
  simp [removeIncoming]
@[simp] theorem leases_removeIncoming (i : LeaseIdx) : (s.removeIncoming i).leases = s.leases := by
  simp [removeIncoming]
@[simp] theorem requests_removeIncoming (i : LeaseIdx) : (s.removeIncoming i).requests = s.requests := by
  simp [removeIncoming]
@[simp] theorem deferred_removeIncoming (i : LeaseIdx) : (s.removeIncoming i).deferred = s.deferred := by
  simp [removeIncoming]
@[simp] theorem worker_removeIncoming (i : LeaseIdx) : (s.removeIncoming i).worker = s.worker := by
  simp [removeIncoming]
@[simp] theorem roster_removeIncoming (i : LeaseIdx) : (s.removeIncoming i).roster = s.roster := by
  simp [removeIncoming]
@[simp] theorem turnPointer_removeIncoming (i : LeaseIdx) : (s.removeIncoming i).turnPointer = s.turnPointer := by
  simp [removeIncoming]
@[simp] theorem uplink_removeIncoming (i : LeaseIdx) : (s.removeIncoming i).uplink = s.uplink := by
  simp [removeIncoming]
@[simp] theorem notices_removeIncoming (i : LeaseIdx) : (s.removeIncoming i).notices = s.notices := by
  simp [removeIncoming]
@[simp] theorem credited_removeIncoming (i : LeaseIdx) : (s.removeIncoming i).credited = s.credited := by
  simp [removeIncoming]
@[simp] theorem attention_removeIncoming (i : LeaseIdx) : (s.removeIncoming i).attention = s.attention := by
  simp [removeIncoming]
@[simp] theorem attnEn_removeIncoming (i : LeaseIdx) : (s.removeIncoming i).attnEn = s.attnEn := by
  simp [removeIncoming]
@[simp] theorem settings_removeIncoming (i : LeaseIdx) : (s.removeIncoming i).settings = s.settings := by
  simp [removeIncoming]
@[simp] theorem port_removeIncoming (i : LeaseIdx) : (s.removeIncoming i).port = s.port := by
  simp [removeIncoming]
@[simp] theorem cmd_removeIncoming (i : LeaseIdx) : (s.removeIncoming i).cmd = s.cmd := by
  simp [removeIncoming]
@[simp] theorem due_removeIncoming (i : LeaseIdx) : (s.removeIncoming i).due = s.due := by
  simp [removeIncoming]
@[simp] theorem pending_removeIncoming (i : LeaseIdx) : (s.removeIncoming i).pending = s.pending := by
  simp [removeIncoming]

@[simp] theorem fg_vacateAtOnce (i : LeaseIdx) : (s.vacateAtOnce i).fg = s.fg := by
  simp [vacateAtOnce]
@[simp] theorem leases_vacateAtOnce (i : LeaseIdx) : (s.vacateAtOnce i).leases = s.leases := by
  simp [vacateAtOnce]
@[simp] theorem requests_vacateAtOnce (i : LeaseIdx) : (s.vacateAtOnce i).requests = s.requests := by
  simp [vacateAtOnce]
@[simp] theorem deferred_vacateAtOnce (i : LeaseIdx) : (s.vacateAtOnce i).deferred = s.deferred := by
  simp [vacateAtOnce]
@[simp] theorem worker_vacateAtOnce (i : LeaseIdx) : (s.vacateAtOnce i).worker = s.worker := by
  simp [vacateAtOnce]
@[simp] theorem roster_vacateAtOnce (i : LeaseIdx) : (s.vacateAtOnce i).roster = s.roster := by
  simp [vacateAtOnce]
@[simp] theorem turnPointer_vacateAtOnce (i : LeaseIdx) : (s.vacateAtOnce i).turnPointer = s.turnPointer := by
  simp [vacateAtOnce]
@[simp] theorem uplink_vacateAtOnce (i : LeaseIdx) : (s.vacateAtOnce i).uplink = s.uplink := by
  simp [vacateAtOnce]
@[simp] theorem notices_vacateAtOnce (i : LeaseIdx) : (s.vacateAtOnce i).notices = s.notices := by
  simp [vacateAtOnce]
@[simp] theorem credited_vacateAtOnce (i : LeaseIdx) : (s.vacateAtOnce i).credited = s.credited := by
  simp [vacateAtOnce]
@[simp] theorem attention_vacateAtOnce (i : LeaseIdx) : (s.vacateAtOnce i).attention = s.attention := by
  simp [vacateAtOnce]
@[simp] theorem attnEn_vacateAtOnce (i : LeaseIdx) : (s.vacateAtOnce i).attnEn = s.attnEn := by
  simp [vacateAtOnce]
@[simp] theorem settings_vacateAtOnce (i : LeaseIdx) : (s.vacateAtOnce i).settings = s.settings := by
  simp [vacateAtOnce]
@[simp] theorem port_vacateAtOnce (i : LeaseIdx) : (s.vacateAtOnce i).port = s.port := by
  simp [vacateAtOnce]
@[simp] theorem cmd_vacateAtOnce (i : LeaseIdx) : (s.vacateAtOnce i).cmd = s.cmd := by
  simp [vacateAtOnce]
@[simp] theorem due_vacateAtOnce (i : LeaseIdx) : (s.vacateAtOnce i).due = s.due := by
  simp [vacateAtOnce]
@[simp] theorem pending_vacateAtOnce (i : LeaseIdx) : (s.vacateAtOnce i).pending = s.pending := by
  simp [vacateAtOnce]

@[simp] theorem fg_writeIncoming (i : LeaseIdx) (p : Pos) (c : LenClass) : (s.writeIncoming i p c).fg = s.fg := rfl
@[simp] theorem leases_writeIncoming (i : LeaseIdx) (p : Pos) (c : LenClass) : (s.writeIncoming i p c).leases = s.leases := rfl
@[simp] theorem engine_writeIncoming (i : LeaseIdx) (p : Pos) (c : LenClass) : (s.writeIncoming i p c).engine = s.engine := rfl
@[simp] theorem requests_writeIncoming (i : LeaseIdx) (p : Pos) (c : LenClass) : (s.writeIncoming i p c).requests = s.requests := rfl
@[simp] theorem deferred_writeIncoming (i : LeaseIdx) (p : Pos) (c : LenClass) : (s.writeIncoming i p c).deferred = s.deferred := rfl
@[simp] theorem worker_writeIncoming (i : LeaseIdx) (p : Pos) (c : LenClass) : (s.writeIncoming i p c).worker = s.worker := rfl
@[simp] theorem roster_writeIncoming (i : LeaseIdx) (p : Pos) (c : LenClass) : (s.writeIncoming i p c).roster = s.roster := rfl
@[simp] theorem turnPointer_writeIncoming (i : LeaseIdx) (p : Pos) (c : LenClass) : (s.writeIncoming i p c).turnPointer = s.turnPointer := rfl
@[simp] theorem uplink_writeIncoming (i : LeaseIdx) (p : Pos) (c : LenClass) : (s.writeIncoming i p c).uplink = s.uplink := rfl
@[simp] theorem notices_writeIncoming (i : LeaseIdx) (p : Pos) (c : LenClass) : (s.writeIncoming i p c).notices = s.notices := rfl
@[simp] theorem credited_writeIncoming (i : LeaseIdx) (p : Pos) (c : LenClass) : (s.writeIncoming i p c).credited = s.credited := rfl
@[simp] theorem attention_writeIncoming (i : LeaseIdx) (p : Pos) (c : LenClass) : (s.writeIncoming i p c).attention = s.attention := rfl
@[simp] theorem attnEn_writeIncoming (i : LeaseIdx) (p : Pos) (c : LenClass) : (s.writeIncoming i p c).attnEn = s.attnEn := rfl
@[simp] theorem settings_writeIncoming (i : LeaseIdx) (p : Pos) (c : LenClass) : (s.writeIncoming i p c).settings = s.settings := rfl
@[simp] theorem port_writeIncoming (i : LeaseIdx) (p : Pos) (c : LenClass) : (s.writeIncoming i p c).port = s.port := rfl
@[simp] theorem cmd_writeIncoming (i : LeaseIdx) (p : Pos) (c : LenClass) : (s.writeIncoming i p c).cmd = s.cmd := rfl
@[simp] theorem due_writeIncoming (i : LeaseIdx) (p : Pos) (c : LenClass) : (s.writeIncoming i p c).due = s.due := rfl
@[simp] theorem pending_writeIncoming (i : LeaseIdx) (p : Pos) (c : LenClass) : (s.writeIncoming i p c).pending = s.pending := rfl

@[simp] theorem fg_submit (q : QueuedNotice) : (s.submit q).fg = s.fg := by
  unfold submit
  repeat' split
  all_goals simp
@[simp] theorem slots_submit (q : QueuedNotice) : (s.submit q).slots = s.slots := by
  unfold submit
  repeat' split
  all_goals simp
@[simp] theorem leases_submit (q : QueuedNotice) : (s.submit q).leases = s.leases := by
  unfold submit
  repeat' split
  all_goals simp
@[simp] theorem engine_submit (q : QueuedNotice) : (s.submit q).engine = s.engine := by
  unfold submit
  repeat' split
  all_goals simp
@[simp] theorem requests_submit (q : QueuedNotice) : (s.submit q).requests = s.requests := by
  unfold submit
  repeat' split
  all_goals simp
@[simp] theorem deferred_submit (q : QueuedNotice) : (s.submit q).deferred = s.deferred := by
  unfold submit
  repeat' split
  all_goals simp
@[simp] theorem worker_submit (q : QueuedNotice) : (s.submit q).worker = s.worker := by
  unfold submit
  repeat' split
  all_goals simp
@[simp] theorem roster_submit (q : QueuedNotice) : (s.submit q).roster = s.roster := by
  unfold submit
  repeat' split
  all_goals simp
@[simp] theorem turnPointer_submit (q : QueuedNotice) : (s.submit q).turnPointer = s.turnPointer := by
  unfold submit
  repeat' split
  all_goals simp
@[simp] theorem uplink_submit (q : QueuedNotice) : (s.submit q).uplink = s.uplink := by
  unfold submit
  repeat' split
  all_goals simp
@[simp] theorem credited_submit (q : QueuedNotice) : (s.submit q).credited = s.credited := by
  unfold submit
  repeat' split
  all_goals simp
@[simp] theorem attnEn_submit (q : QueuedNotice) : (s.submit q).attnEn = s.attnEn := by
  unfold submit
  repeat' split
  all_goals simp
@[simp] theorem settings_submit (q : QueuedNotice) : (s.submit q).settings = s.settings := by
  unfold submit
  repeat' split
  all_goals simp
@[simp] theorem port_submit (q : QueuedNotice) : (s.submit q).port = s.port := by
  unfold submit
  repeat' split
  all_goals simp
@[simp] theorem cmd_submit (q : QueuedNotice) : (s.submit q).cmd = s.cmd := by
  unfold submit
  repeat' split
  all_goals simp
@[simp] theorem due_submit (q : QueuedNotice) : (s.submit q).due = s.due := by
  unfold submit
  repeat' split
  all_goals simp
@[simp] theorem pending_submit (q : QueuedNotice) : (s.submit q).pending = s.pending := by
  unfold submit
  repeat' split
  all_goals simp

@[simp] theorem fg_inform (n : Notice) : (s.inform n).fg = s.fg := by
  simp [inform]
@[simp] theorem slots_inform (n : Notice) : (s.inform n).slots = s.slots := by
  simp [inform]
@[simp] theorem leases_inform (n : Notice) : (s.inform n).leases = s.leases := by
  simp [inform]
@[simp] theorem engine_inform (n : Notice) : (s.inform n).engine = s.engine := by
  simp [inform]
@[simp] theorem requests_inform (n : Notice) : (s.inform n).requests = s.requests := by
  simp [inform]
@[simp] theorem deferred_inform (n : Notice) : (s.inform n).deferred = s.deferred := by
  simp [inform]
@[simp] theorem worker_inform (n : Notice) : (s.inform n).worker = s.worker := by
  simp [inform]
@[simp] theorem roster_inform (n : Notice) : (s.inform n).roster = s.roster := by
  simp [inform]
@[simp] theorem turnPointer_inform (n : Notice) : (s.inform n).turnPointer = s.turnPointer := by
  simp [inform]
@[simp] theorem uplink_inform (n : Notice) : (s.inform n).uplink = s.uplink := by
  simp [inform]
@[simp] theorem credited_inform (n : Notice) : (s.inform n).credited = s.credited := by
  simp [inform]
@[simp] theorem attnEn_inform (n : Notice) : (s.inform n).attnEn = s.attnEn := by
  simp [inform]
@[simp] theorem settings_inform (n : Notice) : (s.inform n).settings = s.settings := by
  simp [inform]
@[simp] theorem port_inform (n : Notice) : (s.inform n).port = s.port := by
  simp [inform]
@[simp] theorem cmd_inform (n : Notice) : (s.inform n).cmd = s.cmd := by
  simp [inform]
@[simp] theorem due_inform (n : Notice) : (s.inform n).due = s.due := by
  simp [inform]
@[simp] theorem pending_inform (n : Notice) : (s.inform n).pending = s.pending := by
  simp [inform]

@[simp] theorem fg_announce (i : LeaseIdx) (n : Notice) : (s.announce i n).fg = s.fg := by
  simp [announce]
@[simp] theorem slots_announce (i : LeaseIdx) (n : Notice) : (s.announce i n).slots = s.slots := by
  simp [announce]
@[simp] theorem leases_announce (i : LeaseIdx) (n : Notice) : (s.announce i n).leases = s.leases := by
  simp [announce]
@[simp] theorem engine_announce (i : LeaseIdx) (n : Notice) : (s.announce i n).engine = s.engine := by
  simp [announce]
@[simp] theorem requests_announce (i : LeaseIdx) (n : Notice) : (s.announce i n).requests = s.requests := by
  simp [announce]
@[simp] theorem deferred_announce (i : LeaseIdx) (n : Notice) : (s.announce i n).deferred = s.deferred := by
  simp [announce]
@[simp] theorem worker_announce (i : LeaseIdx) (n : Notice) : (s.announce i n).worker = s.worker := by
  simp [announce]
@[simp] theorem roster_announce (i : LeaseIdx) (n : Notice) : (s.announce i n).roster = s.roster := by
  simp [announce]
@[simp] theorem turnPointer_announce (i : LeaseIdx) (n : Notice) : (s.announce i n).turnPointer = s.turnPointer := by
  simp [announce]
@[simp] theorem uplink_announce (i : LeaseIdx) (n : Notice) : (s.announce i n).uplink = s.uplink := by
  simp [announce]
@[simp] theorem credited_announce (i : LeaseIdx) (n : Notice) : (s.announce i n).credited = s.credited := by
  simp [announce]
@[simp] theorem attnEn_announce (i : LeaseIdx) (n : Notice) : (s.announce i n).attnEn = s.attnEn := by
  simp [announce]
@[simp] theorem settings_announce (i : LeaseIdx) (n : Notice) : (s.announce i n).settings = s.settings := by
  simp [announce]
@[simp] theorem port_announce (i : LeaseIdx) (n : Notice) : (s.announce i n).port = s.port := by
  simp [announce]
@[simp] theorem cmd_announce (i : LeaseIdx) (n : Notice) : (s.announce i n).cmd = s.cmd := by
  simp [announce]
@[simp] theorem due_announce (i : LeaseIdx) (n : Notice) : (s.announce i n).due = s.due := by
  simp [announce]
@[simp] theorem pending_announce (i : LeaseIdx) (n : Notice) : (s.announce i n).pending = s.pending := by
  simp [announce]

@[simp] theorem fg_withdrawHandle (h : Handle) : (s.withdrawHandle h).fg = s.fg := rfl
@[simp] theorem slots_withdrawHandle (h : Handle) : (s.withdrawHandle h).slots = s.slots := rfl
@[simp] theorem leases_withdrawHandle (h : Handle) : (s.withdrawHandle h).leases = s.leases := rfl
@[simp] theorem engine_withdrawHandle (h : Handle) : (s.withdrawHandle h).engine = s.engine := rfl
@[simp] theorem requests_withdrawHandle (h : Handle) : (s.withdrawHandle h).requests = s.requests := rfl
@[simp] theorem deferred_withdrawHandle (h : Handle) : (s.withdrawHandle h).deferred = s.deferred := rfl
@[simp] theorem worker_withdrawHandle (h : Handle) : (s.withdrawHandle h).worker = s.worker := rfl
@[simp] theorem roster_withdrawHandle (h : Handle) : (s.withdrawHandle h).roster = s.roster := rfl
@[simp] theorem turnPointer_withdrawHandle (h : Handle) : (s.withdrawHandle h).turnPointer = s.turnPointer := rfl
@[simp] theorem uplink_withdrawHandle (h : Handle) : (s.withdrawHandle h).uplink = s.uplink := rfl
@[simp] theorem credited_withdrawHandle (h : Handle) : (s.withdrawHandle h).credited = s.credited := rfl
@[simp] theorem attention_withdrawHandle (h : Handle) : (s.withdrawHandle h).attention = s.attention := rfl
@[simp] theorem attnEn_withdrawHandle (h : Handle) : (s.withdrawHandle h).attnEn = s.attnEn := rfl
@[simp] theorem settings_withdrawHandle (h : Handle) : (s.withdrawHandle h).settings = s.settings := rfl
@[simp] theorem port_withdrawHandle (h : Handle) : (s.withdrawHandle h).port = s.port := rfl
@[simp] theorem cmd_withdrawHandle (h : Handle) : (s.withdrawHandle h).cmd = s.cmd := rfl
@[simp] theorem due_withdrawHandle (h : Handle) : (s.withdrawHandle h).due = s.due := rfl
@[simp] theorem pending_withdrawHandle (h : Handle) : (s.withdrawHandle h).pending = s.pending := rfl

@[simp] theorem fg_withdrawAddress (t : Trib) : (s.withdrawAddress t).fg = s.fg := rfl
@[simp] theorem slots_withdrawAddress (t : Trib) : (s.withdrawAddress t).slots = s.slots := rfl
@[simp] theorem leases_withdrawAddress (t : Trib) : (s.withdrawAddress t).leases = s.leases := rfl
@[simp] theorem engine_withdrawAddress (t : Trib) : (s.withdrawAddress t).engine = s.engine := rfl
@[simp] theorem requests_withdrawAddress (t : Trib) : (s.withdrawAddress t).requests = s.requests := rfl
@[simp] theorem deferred_withdrawAddress (t : Trib) : (s.withdrawAddress t).deferred = s.deferred := rfl
@[simp] theorem worker_withdrawAddress (t : Trib) : (s.withdrawAddress t).worker = s.worker := rfl
@[simp] theorem roster_withdrawAddress (t : Trib) : (s.withdrawAddress t).roster = s.roster := rfl
@[simp] theorem turnPointer_withdrawAddress (t : Trib) : (s.withdrawAddress t).turnPointer = s.turnPointer := rfl
@[simp] theorem uplink_withdrawAddress (t : Trib) : (s.withdrawAddress t).uplink = s.uplink := rfl
@[simp] theorem credited_withdrawAddress (t : Trib) : (s.withdrawAddress t).credited = s.credited := rfl
@[simp] theorem attention_withdrawAddress (t : Trib) : (s.withdrawAddress t).attention = s.attention := rfl
@[simp] theorem attnEn_withdrawAddress (t : Trib) : (s.withdrawAddress t).attnEn = s.attnEn := rfl
@[simp] theorem settings_withdrawAddress (t : Trib) : (s.withdrawAddress t).settings = s.settings := rfl
@[simp] theorem port_withdrawAddress (t : Trib) : (s.withdrawAddress t).port = s.port := rfl
@[simp] theorem cmd_withdrawAddress (t : Trib) : (s.withdrawAddress t).cmd = s.cmd := rfl
@[simp] theorem due_withdrawAddress (t : Trib) : (s.withdrawAddress t).due = s.due := rfl
@[simp] theorem pending_withdrawAddress (t : Trib) : (s.withdrawAddress t).pending = s.pending := rfl

@[simp] theorem fg_withdrawMove (i : LeaseIdx) : (s.withdrawMove i).fg = s.fg := rfl
@[simp] theorem slots_withdrawMove (i : LeaseIdx) : (s.withdrawMove i).slots = s.slots := rfl
@[simp] theorem leases_withdrawMove (i : LeaseIdx) : (s.withdrawMove i).leases = s.leases := rfl
@[simp] theorem engine_withdrawMove (i : LeaseIdx) : (s.withdrawMove i).engine = s.engine := rfl
@[simp] theorem requests_withdrawMove (i : LeaseIdx) : (s.withdrawMove i).requests = s.requests := rfl
@[simp] theorem deferred_withdrawMove (i : LeaseIdx) : (s.withdrawMove i).deferred = s.deferred := rfl
@[simp] theorem worker_withdrawMove (i : LeaseIdx) : (s.withdrawMove i).worker = s.worker := rfl
@[simp] theorem roster_withdrawMove (i : LeaseIdx) : (s.withdrawMove i).roster = s.roster := rfl
@[simp] theorem turnPointer_withdrawMove (i : LeaseIdx) : (s.withdrawMove i).turnPointer = s.turnPointer := rfl
@[simp] theorem uplink_withdrawMove (i : LeaseIdx) : (s.withdrawMove i).uplink = s.uplink := rfl
@[simp] theorem credited_withdrawMove (i : LeaseIdx) : (s.withdrawMove i).credited = s.credited := rfl
@[simp] theorem attention_withdrawMove (i : LeaseIdx) : (s.withdrawMove i).attention = s.attention := rfl
@[simp] theorem attnEn_withdrawMove (i : LeaseIdx) : (s.withdrawMove i).attnEn = s.attnEn := rfl
@[simp] theorem settings_withdrawMove (i : LeaseIdx) : (s.withdrawMove i).settings = s.settings := rfl
@[simp] theorem port_withdrawMove (i : LeaseIdx) : (s.withdrawMove i).port = s.port := rfl
@[simp] theorem cmd_withdrawMove (i : LeaseIdx) : (s.withdrawMove i).cmd = s.cmd := rfl
@[simp] theorem due_withdrawMove (i : LeaseIdx) : (s.withdrawMove i).due = s.due := rfl
@[simp] theorem pending_withdrawMove (i : LeaseIdx) : (s.withdrawMove i).pending = s.pending := rfl

@[simp] theorem fg_setEntry (t : Trib) (e : RosterEntry) : (s.setEntry t e).fg = s.fg := rfl
@[simp] theorem slots_setEntry (t : Trib) (e : RosterEntry) : (s.setEntry t e).slots = s.slots := rfl
@[simp] theorem leases_setEntry (t : Trib) (e : RosterEntry) : (s.setEntry t e).leases = s.leases := rfl
@[simp] theorem engine_setEntry (t : Trib) (e : RosterEntry) : (s.setEntry t e).engine = s.engine := rfl
@[simp] theorem requests_setEntry (t : Trib) (e : RosterEntry) : (s.setEntry t e).requests = s.requests := rfl
@[simp] theorem deferred_setEntry (t : Trib) (e : RosterEntry) : (s.setEntry t e).deferred = s.deferred := rfl
@[simp] theorem worker_setEntry (t : Trib) (e : RosterEntry) : (s.setEntry t e).worker = s.worker := rfl
@[simp] theorem turnPointer_setEntry (t : Trib) (e : RosterEntry) : (s.setEntry t e).turnPointer = s.turnPointer := rfl
@[simp] theorem uplink_setEntry (t : Trib) (e : RosterEntry) : (s.setEntry t e).uplink = s.uplink := rfl
@[simp] theorem notices_setEntry (t : Trib) (e : RosterEntry) : (s.setEntry t e).notices = s.notices := rfl
@[simp] theorem credited_setEntry (t : Trib) (e : RosterEntry) : (s.setEntry t e).credited = s.credited := rfl
@[simp] theorem attention_setEntry (t : Trib) (e : RosterEntry) : (s.setEntry t e).attention = s.attention := rfl
@[simp] theorem attnEn_setEntry (t : Trib) (e : RosterEntry) : (s.setEntry t e).attnEn = s.attnEn := rfl
@[simp] theorem settings_setEntry (t : Trib) (e : RosterEntry) : (s.setEntry t e).settings = s.settings := rfl
@[simp] theorem port_setEntry (t : Trib) (e : RosterEntry) : (s.setEntry t e).port = s.port := rfl
@[simp] theorem cmd_setEntry (t : Trib) (e : RosterEntry) : (s.setEntry t e).cmd = s.cmd := rfl
@[simp] theorem due_setEntry (t : Trib) (e : RosterEntry) : (s.setEntry t e).due = s.due := rfl
@[simp] theorem pending_setEntry (t : Trib) (e : RosterEntry) : (s.setEntry t e).pending = s.pending := rfl

@[simp] theorem fg_answer (k : Option LeaseIdx) (n : Notice) : (s.answer k n).fg = s.fg := by
  simp [answer]
@[simp] theorem slots_answer (k : Option LeaseIdx) (n : Notice) : (s.answer k n).slots = s.slots := by
  simp [answer]
@[simp] theorem leases_answer (k : Option LeaseIdx) (n : Notice) : (s.answer k n).leases = s.leases := by
  simp [answer]
@[simp] theorem engine_answer (k : Option LeaseIdx) (n : Notice) : (s.answer k n).engine = s.engine := by
  simp [answer]
@[simp] theorem requests_answer (k : Option LeaseIdx) (n : Notice) : (s.answer k n).requests = s.requests := by
  simp [answer]
@[simp] theorem deferred_answer (k : Option LeaseIdx) (n : Notice) : (s.answer k n).deferred = s.deferred := by
  simp [answer]
@[simp] theorem worker_answer (k : Option LeaseIdx) (n : Notice) : (s.answer k n).worker = s.worker := by
  simp [answer]
@[simp] theorem turnPointer_answer (k : Option LeaseIdx) (n : Notice) : (s.answer k n).turnPointer = s.turnPointer := by
  simp [answer]
@[simp] theorem uplink_answer (k : Option LeaseIdx) (n : Notice) : (s.answer k n).uplink = s.uplink := by
  simp [answer]
@[simp] theorem credited_answer (k : Option LeaseIdx) (n : Notice) : (s.answer k n).credited = s.credited := by
  simp [answer]
@[simp] theorem attnEn_answer (k : Option LeaseIdx) (n : Notice) : (s.answer k n).attnEn = s.attnEn := by
  simp [answer]
@[simp] theorem settings_answer (k : Option LeaseIdx) (n : Notice) : (s.answer k n).settings = s.settings := by
  simp [answer]
@[simp] theorem port_answer (k : Option LeaseIdx) (n : Notice) : (s.answer k n).port = s.port := by
  simp [answer]
@[simp] theorem cmd_answer (k : Option LeaseIdx) (n : Notice) : (s.answer k n).cmd = s.cmd := by
  simp [answer]
@[simp] theorem due_answer (k : Option LeaseIdx) (n : Notice) : (s.answer k n).due = s.due := by
  simp [answer]
@[simp] theorem pending_answer (k : Option LeaseIdx) (n : Notice) : (s.answer k n).pending = s.pending := by
  simp [answer]

@[simp] theorem fg_refuse (t : Trib) (q : Bool) (h : Option Handle) (r : RefusalReason) : (s.refuse t q h r).fg = s.fg := by
  simp [refuse]
@[simp] theorem slots_refuse (t : Trib) (q : Bool) (h : Option Handle) (r : RefusalReason) : (s.refuse t q h r).slots = s.slots := by
  simp [refuse]
@[simp] theorem leases_refuse (t : Trib) (q : Bool) (h : Option Handle) (r : RefusalReason) : (s.refuse t q h r).leases = s.leases := by
  simp [refuse]
@[simp] theorem engine_refuse (t : Trib) (q : Bool) (h : Option Handle) (r : RefusalReason) : (s.refuse t q h r).engine = s.engine := by
  simp [refuse]
@[simp] theorem requests_refuse (t : Trib) (q : Bool) (h : Option Handle) (r : RefusalReason) : (s.refuse t q h r).requests = s.requests := by
  simp [refuse]
@[simp] theorem deferred_refuse (t : Trib) (q : Bool) (h : Option Handle) (r : RefusalReason) : (s.refuse t q h r).deferred = s.deferred := by
  simp [refuse]
@[simp] theorem worker_refuse (t : Trib) (q : Bool) (h : Option Handle) (r : RefusalReason) : (s.refuse t q h r).worker = s.worker := by
  simp [refuse]
@[simp] theorem turnPointer_refuse (t : Trib) (q : Bool) (h : Option Handle) (r : RefusalReason) : (s.refuse t q h r).turnPointer = s.turnPointer := by
  simp [refuse]
@[simp] theorem uplink_refuse (t : Trib) (q : Bool) (h : Option Handle) (r : RefusalReason) : (s.refuse t q h r).uplink = s.uplink := by
  simp [refuse]
@[simp] theorem credited_refuse (t : Trib) (q : Bool) (h : Option Handle) (r : RefusalReason) : (s.refuse t q h r).credited = s.credited := by
  simp [refuse]
@[simp] theorem attnEn_refuse (t : Trib) (q : Bool) (h : Option Handle) (r : RefusalReason) : (s.refuse t q h r).attnEn = s.attnEn := by
  simp [refuse]
@[simp] theorem settings_refuse (t : Trib) (q : Bool) (h : Option Handle) (r : RefusalReason) : (s.refuse t q h r).settings = s.settings := by
  simp [refuse]
@[simp] theorem port_refuse (t : Trib) (q : Bool) (h : Option Handle) (r : RefusalReason) : (s.refuse t q h r).port = s.port := by
  simp [refuse]
@[simp] theorem cmd_refuse (t : Trib) (q : Bool) (h : Option Handle) (r : RefusalReason) : (s.refuse t q h r).cmd = s.cmd := by
  simp [refuse]
@[simp] theorem due_refuse (t : Trib) (q : Bool) (h : Option Handle) (r : RefusalReason) : (s.refuse t q h r).due = s.due := by
  simp [refuse]
@[simp] theorem pending_refuse (t : Trib) (q : Bool) (h : Option Handle) (r : RefusalReason) : (s.refuse t q h r).pending = s.pending := by
  simp [refuse]

@[simp] theorem fg_setLease (i : LeaseIdx) (l : Lease) : (s.setLease i l).fg = s.fg := rfl
@[simp] theorem slots_setLease (i : LeaseIdx) (l : Lease) : (s.setLease i l).slots = s.slots := rfl
@[simp] theorem engine_setLease (i : LeaseIdx) (l : Lease) : (s.setLease i l).engine = s.engine := rfl
@[simp] theorem requests_setLease (i : LeaseIdx) (l : Lease) : (s.setLease i l).requests = s.requests := rfl
@[simp] theorem deferred_setLease (i : LeaseIdx) (l : Lease) : (s.setLease i l).deferred = s.deferred := rfl
@[simp] theorem worker_setLease (i : LeaseIdx) (l : Lease) : (s.setLease i l).worker = s.worker := rfl
@[simp] theorem roster_setLease (i : LeaseIdx) (l : Lease) : (s.setLease i l).roster = s.roster := rfl
@[simp] theorem turnPointer_setLease (i : LeaseIdx) (l : Lease) : (s.setLease i l).turnPointer = s.turnPointer := rfl
@[simp] theorem uplink_setLease (i : LeaseIdx) (l : Lease) : (s.setLease i l).uplink = s.uplink := rfl
@[simp] theorem notices_setLease (i : LeaseIdx) (l : Lease) : (s.setLease i l).notices = s.notices := rfl
@[simp] theorem credited_setLease (i : LeaseIdx) (l : Lease) : (s.setLease i l).credited = s.credited := rfl
@[simp] theorem attention_setLease (i : LeaseIdx) (l : Lease) : (s.setLease i l).attention = s.attention := rfl
@[simp] theorem attnEn_setLease (i : LeaseIdx) (l : Lease) : (s.setLease i l).attnEn = s.attnEn := rfl
@[simp] theorem settings_setLease (i : LeaseIdx) (l : Lease) : (s.setLease i l).settings = s.settings := rfl
@[simp] theorem port_setLease (i : LeaseIdx) (l : Lease) : (s.setLease i l).port = s.port := rfl
@[simp] theorem cmd_setLease (i : LeaseIdx) (l : Lease) : (s.setLease i l).cmd = s.cmd := rfl
@[simp] theorem due_setLease (i : LeaseIdx) (l : Lease) : (s.setLease i l).due = s.due := rfl
@[simp] theorem pending_setLease (i : LeaseIdx) (l : Lease) : (s.setLease i l).pending = s.pending := rfl

@[simp] theorem fg_writeUntils (i : LeaseIdx) : (s.writeUntils i).fg = s.fg := by
  unfold writeUntils
  repeat' split
  all_goals simp
@[simp] theorem leases_writeUntils (i : LeaseIdx) : (s.writeUntils i).leases = s.leases := by
  unfold writeUntils
  repeat' split
  all_goals simp
@[simp] theorem engine_writeUntils (i : LeaseIdx) : (s.writeUntils i).engine = s.engine := by
  unfold writeUntils
  repeat' split
  all_goals simp
@[simp] theorem requests_writeUntils (i : LeaseIdx) : (s.writeUntils i).requests = s.requests := by
  unfold writeUntils
  repeat' split
  all_goals simp
@[simp] theorem deferred_writeUntils (i : LeaseIdx) : (s.writeUntils i).deferred = s.deferred := by
  unfold writeUntils
  repeat' split
  all_goals simp
@[simp] theorem worker_writeUntils (i : LeaseIdx) : (s.writeUntils i).worker = s.worker := by
  unfold writeUntils
  repeat' split
  all_goals simp
@[simp] theorem roster_writeUntils (i : LeaseIdx) : (s.writeUntils i).roster = s.roster := by
  unfold writeUntils
  repeat' split
  all_goals simp
@[simp] theorem turnPointer_writeUntils (i : LeaseIdx) : (s.writeUntils i).turnPointer = s.turnPointer := by
  unfold writeUntils
  repeat' split
  all_goals simp
@[simp] theorem uplink_writeUntils (i : LeaseIdx) : (s.writeUntils i).uplink = s.uplink := by
  unfold writeUntils
  repeat' split
  all_goals simp
@[simp] theorem notices_writeUntils (i : LeaseIdx) : (s.writeUntils i).notices = s.notices := by
  unfold writeUntils
  repeat' split
  all_goals simp
@[simp] theorem credited_writeUntils (i : LeaseIdx) : (s.writeUntils i).credited = s.credited := by
  unfold writeUntils
  repeat' split
  all_goals simp
@[simp] theorem attention_writeUntils (i : LeaseIdx) : (s.writeUntils i).attention = s.attention := by
  unfold writeUntils
  repeat' split
  all_goals simp
@[simp] theorem attnEn_writeUntils (i : LeaseIdx) : (s.writeUntils i).attnEn = s.attnEn := by
  unfold writeUntils
  repeat' split
  all_goals simp
@[simp] theorem settings_writeUntils (i : LeaseIdx) : (s.writeUntils i).settings = s.settings := by
  unfold writeUntils
  repeat' split
  all_goals simp
@[simp] theorem port_writeUntils (i : LeaseIdx) : (s.writeUntils i).port = s.port := by
  unfold writeUntils
  repeat' split
  all_goals simp
@[simp] theorem cmd_writeUntils (i : LeaseIdx) : (s.writeUntils i).cmd = s.cmd := by
  unfold writeUntils
  repeat' split
  all_goals simp
@[simp] theorem due_writeUntils (i : LeaseIdx) : (s.writeUntils i).due = s.due := by
  unfold writeUntils
  repeat' split
  all_goals simp
@[simp] theorem pending_writeUntils (i : LeaseIdx) : (s.writeUntils i).pending = s.pending := by
  unfold writeUntils
  repeat' split
  all_goals simp

@[simp] theorem fg_addHeld (t : Trib) (c : LenClass) : (s.addHeld t c).fg = s.fg := rfl
@[simp] theorem slots_addHeld (t : Trib) (c : LenClass) : (s.addHeld t c).slots = s.slots := rfl
@[simp] theorem leases_addHeld (t : Trib) (c : LenClass) : (s.addHeld t c).leases = s.leases := rfl
@[simp] theorem engine_addHeld (t : Trib) (c : LenClass) : (s.addHeld t c).engine = s.engine := rfl
@[simp] theorem requests_addHeld (t : Trib) (c : LenClass) : (s.addHeld t c).requests = s.requests := rfl
@[simp] theorem deferred_addHeld (t : Trib) (c : LenClass) : (s.addHeld t c).deferred = s.deferred := rfl
@[simp] theorem worker_addHeld (t : Trib) (c : LenClass) : (s.addHeld t c).worker = s.worker := rfl
@[simp] theorem turnPointer_addHeld (t : Trib) (c : LenClass) : (s.addHeld t c).turnPointer = s.turnPointer := rfl
@[simp] theorem uplink_addHeld (t : Trib) (c : LenClass) : (s.addHeld t c).uplink = s.uplink := rfl
@[simp] theorem notices_addHeld (t : Trib) (c : LenClass) : (s.addHeld t c).notices = s.notices := rfl
@[simp] theorem credited_addHeld (t : Trib) (c : LenClass) : (s.addHeld t c).credited = s.credited := rfl
@[simp] theorem attention_addHeld (t : Trib) (c : LenClass) : (s.addHeld t c).attention = s.attention := rfl
@[simp] theorem attnEn_addHeld (t : Trib) (c : LenClass) : (s.addHeld t c).attnEn = s.attnEn := rfl
@[simp] theorem settings_addHeld (t : Trib) (c : LenClass) : (s.addHeld t c).settings = s.settings := rfl
@[simp] theorem port_addHeld (t : Trib) (c : LenClass) : (s.addHeld t c).port = s.port := rfl
@[simp] theorem cmd_addHeld (t : Trib) (c : LenClass) : (s.addHeld t c).cmd = s.cmd := rfl
@[simp] theorem due_addHeld (t : Trib) (c : LenClass) : (s.addHeld t c).due = s.due := rfl
@[simp] theorem pending_addHeld (t : Trib) (c : LenClass) : (s.addHeld t c).pending = s.pending := rfl

@[simp] theorem fg_dropHeld (l : Lease) : (s.dropHeld l).fg = s.fg := by
  unfold dropHeld
  repeat' split
  all_goals simp
@[simp] theorem slots_dropHeld (l : Lease) : (s.dropHeld l).slots = s.slots := by
  unfold dropHeld
  repeat' split
  all_goals simp
@[simp] theorem leases_dropHeld (l : Lease) : (s.dropHeld l).leases = s.leases := by
  unfold dropHeld
  repeat' split
  all_goals simp
@[simp] theorem engine_dropHeld (l : Lease) : (s.dropHeld l).engine = s.engine := by
  unfold dropHeld
  repeat' split
  all_goals simp
@[simp] theorem requests_dropHeld (l : Lease) : (s.dropHeld l).requests = s.requests := by
  unfold dropHeld
  repeat' split
  all_goals simp
@[simp] theorem deferred_dropHeld (l : Lease) : (s.dropHeld l).deferred = s.deferred := by
  unfold dropHeld
  repeat' split
  all_goals simp
@[simp] theorem worker_dropHeld (l : Lease) : (s.dropHeld l).worker = s.worker := by
  unfold dropHeld
  repeat' split
  all_goals simp
@[simp] theorem turnPointer_dropHeld (l : Lease) : (s.dropHeld l).turnPointer = s.turnPointer := by
  unfold dropHeld
  repeat' split
  all_goals simp
@[simp] theorem uplink_dropHeld (l : Lease) : (s.dropHeld l).uplink = s.uplink := by
  unfold dropHeld
  repeat' split
  all_goals simp
@[simp] theorem notices_dropHeld (l : Lease) : (s.dropHeld l).notices = s.notices := by
  unfold dropHeld
  repeat' split
  all_goals simp
@[simp] theorem credited_dropHeld (l : Lease) : (s.dropHeld l).credited = s.credited := by
  unfold dropHeld
  repeat' split
  all_goals simp
@[simp] theorem attention_dropHeld (l : Lease) : (s.dropHeld l).attention = s.attention := by
  unfold dropHeld
  repeat' split
  all_goals simp
@[simp] theorem attnEn_dropHeld (l : Lease) : (s.dropHeld l).attnEn = s.attnEn := by
  unfold dropHeld
  repeat' split
  all_goals simp
@[simp] theorem settings_dropHeld (l : Lease) : (s.dropHeld l).settings = s.settings := by
  unfold dropHeld
  repeat' split
  all_goals simp
@[simp] theorem port_dropHeld (l : Lease) : (s.dropHeld l).port = s.port := by
  unfold dropHeld
  repeat' split
  all_goals simp
@[simp] theorem cmd_dropHeld (l : Lease) : (s.dropHeld l).cmd = s.cmd := by
  unfold dropHeld
  repeat' split
  all_goals simp
@[simp] theorem due_dropHeld (l : Lease) : (s.dropHeld l).due = s.due := by
  unfold dropHeld
  repeat' split
  all_goals simp
@[simp] theorem pending_dropHeld (l : Lease) : (s.dropHeld l).pending = s.pending := by
  unfold dropHeld
  repeat' split
  all_goals simp

@[simp] theorem fg_createLease (i : LeaseIdx) (t : Trib) (o : Origin) (p : Pos) (c : LenClass) (y : BitVec 2) (m : BitVec 16) (q : Bool) : (s.createLease i t o p c y m q).fg = s.fg := rfl
@[simp] theorem engine_createLease (i : LeaseIdx) (t : Trib) (o : Origin) (p : Pos) (c : LenClass) (y : BitVec 2) (m : BitVec 16) (q : Bool) : (s.createLease i t o p c y m q).engine = s.engine := rfl
@[simp] theorem requests_createLease (i : LeaseIdx) (t : Trib) (o : Origin) (p : Pos) (c : LenClass) (y : BitVec 2) (m : BitVec 16) (q : Bool) : (s.createLease i t o p c y m q).requests = s.requests := rfl
@[simp] theorem deferred_createLease (i : LeaseIdx) (t : Trib) (o : Origin) (p : Pos) (c : LenClass) (y : BitVec 2) (m : BitVec 16) (q : Bool) : (s.createLease i t o p c y m q).deferred = s.deferred := rfl
@[simp] theorem worker_createLease (i : LeaseIdx) (t : Trib) (o : Origin) (p : Pos) (c : LenClass) (y : BitVec 2) (m : BitVec 16) (q : Bool) : (s.createLease i t o p c y m q).worker = s.worker := rfl
@[simp] theorem turnPointer_createLease (i : LeaseIdx) (t : Trib) (o : Origin) (p : Pos) (c : LenClass) (y : BitVec 2) (m : BitVec 16) (q : Bool) : (s.createLease i t o p c y m q).turnPointer = s.turnPointer := rfl
@[simp] theorem uplink_createLease (i : LeaseIdx) (t : Trib) (o : Origin) (p : Pos) (c : LenClass) (y : BitVec 2) (m : BitVec 16) (q : Bool) : (s.createLease i t o p c y m q).uplink = s.uplink := rfl
@[simp] theorem notices_createLease (i : LeaseIdx) (t : Trib) (o : Origin) (p : Pos) (c : LenClass) (y : BitVec 2) (m : BitVec 16) (q : Bool) : (s.createLease i t o p c y m q).notices = s.notices := rfl
@[simp] theorem credited_createLease (i : LeaseIdx) (t : Trib) (o : Origin) (p : Pos) (c : LenClass) (y : BitVec 2) (m : BitVec 16) (q : Bool) : (s.createLease i t o p c y m q).credited = s.credited := rfl
@[simp] theorem attention_createLease (i : LeaseIdx) (t : Trib) (o : Origin) (p : Pos) (c : LenClass) (y : BitVec 2) (m : BitVec 16) (q : Bool) : (s.createLease i t o p c y m q).attention = s.attention := rfl
@[simp] theorem attnEn_createLease (i : LeaseIdx) (t : Trib) (o : Origin) (p : Pos) (c : LenClass) (y : BitVec 2) (m : BitVec 16) (q : Bool) : (s.createLease i t o p c y m q).attnEn = s.attnEn := rfl
@[simp] theorem settings_createLease (i : LeaseIdx) (t : Trib) (o : Origin) (p : Pos) (c : LenClass) (y : BitVec 2) (m : BitVec 16) (q : Bool) : (s.createLease i t o p c y m q).settings = s.settings := rfl
@[simp] theorem port_createLease (i : LeaseIdx) (t : Trib) (o : Origin) (p : Pos) (c : LenClass) (y : BitVec 2) (m : BitVec 16) (q : Bool) : (s.createLease i t o p c y m q).port = s.port := rfl
@[simp] theorem cmd_createLease (i : LeaseIdx) (t : Trib) (o : Origin) (p : Pos) (c : LenClass) (y : BitVec 2) (m : BitVec 16) (q : Bool) : (s.createLease i t o p c y m q).cmd = s.cmd := rfl
@[simp] theorem due_createLease (i : LeaseIdx) (t : Trib) (o : Origin) (p : Pos) (c : LenClass) (y : BitVec 2) (m : BitVec 16) (q : Bool) : (s.createLease i t o p c y m q).due = s.due := rfl
@[simp] theorem pending_createLease (i : LeaseIdx) (t : Trib) (o : Origin) (p : Pos) (c : LenClass) (y : BitVec 2) (m : BitVec 16) (q : Bool) : (s.createLease i t o p c y m q).pending = s.pending := rfl

@[simp] theorem fg_setStepReady (b : Bool) : (s.setStepReady b).fg = s.fg := rfl
@[simp] theorem slots_setStepReady (b : Bool) : (s.setStepReady b).slots = s.slots := rfl
@[simp] theorem leases_setStepReady (b : Bool) : (s.setStepReady b).leases = s.leases := rfl
@[simp] theorem requests_setStepReady (b : Bool) : (s.setStepReady b).requests = s.requests := rfl
@[simp] theorem deferred_setStepReady (b : Bool) : (s.setStepReady b).deferred = s.deferred := rfl
@[simp] theorem worker_setStepReady (b : Bool) : (s.setStepReady b).worker = s.worker := rfl
@[simp] theorem roster_setStepReady (b : Bool) : (s.setStepReady b).roster = s.roster := rfl
@[simp] theorem turnPointer_setStepReady (b : Bool) : (s.setStepReady b).turnPointer = s.turnPointer := rfl
@[simp] theorem uplink_setStepReady (b : Bool) : (s.setStepReady b).uplink = s.uplink := rfl
@[simp] theorem notices_setStepReady (b : Bool) : (s.setStepReady b).notices = s.notices := rfl
@[simp] theorem credited_setStepReady (b : Bool) : (s.setStepReady b).credited = s.credited := rfl
@[simp] theorem attention_setStepReady (b : Bool) : (s.setStepReady b).attention = s.attention := rfl
@[simp] theorem attnEn_setStepReady (b : Bool) : (s.setStepReady b).attnEn = s.attnEn := rfl
@[simp] theorem settings_setStepReady (b : Bool) : (s.setStepReady b).settings = s.settings := rfl
@[simp] theorem port_setStepReady (b : Bool) : (s.setStepReady b).port = s.port := rfl
@[simp] theorem cmd_setStepReady (b : Bool) : (s.setStepReady b).cmd = s.cmd := rfl
@[simp] theorem due_setStepReady (b : Bool) : (s.setStepReady b).due = s.due := rfl
@[simp] theorem pending_setStepReady (b : Bool) : (s.setStepReady b).pending = s.pending := rfl

@[simp] theorem fg_overtake (h : Handle) (p : Pos) : (s.overtake h p).fg = s.fg := by
  unfold overtake
  repeat' split
  all_goals simp
@[simp] theorem slots_overtake (h : Handle) (p : Pos) : (s.overtake h p).slots = s.slots := by
  unfold overtake
  repeat' split
  all_goals simp
@[simp] theorem leases_overtake (h : Handle) (p : Pos) : (s.overtake h p).leases = s.leases := by
  unfold overtake
  repeat' split
  all_goals simp
@[simp] theorem requests_overtake (h : Handle) (p : Pos) : (s.overtake h p).requests = s.requests := by
  unfold overtake
  repeat' split
  all_goals simp
@[simp] theorem deferred_overtake (h : Handle) (p : Pos) : (s.overtake h p).deferred = s.deferred := by
  unfold overtake
  repeat' split
  all_goals simp
@[simp] theorem roster_overtake (h : Handle) (p : Pos) : (s.overtake h p).roster = s.roster := by
  unfold overtake
  repeat' split
  all_goals simp
@[simp] theorem turnPointer_overtake (h : Handle) (p : Pos) : (s.overtake h p).turnPointer = s.turnPointer := by
  unfold overtake
  repeat' split
  all_goals simp
@[simp] theorem uplink_overtake (h : Handle) (p : Pos) : (s.overtake h p).uplink = s.uplink := by
  unfold overtake
  repeat' split
  all_goals simp
@[simp] theorem notices_overtake (h : Handle) (p : Pos) : (s.overtake h p).notices = s.notices := by
  unfold overtake
  repeat' split
  all_goals simp
@[simp] theorem credited_overtake (h : Handle) (p : Pos) : (s.overtake h p).credited = s.credited := by
  unfold overtake
  repeat' split
  all_goals simp
@[simp] theorem attention_overtake (h : Handle) (p : Pos) : (s.overtake h p).attention = s.attention := by
  unfold overtake
  repeat' split
  all_goals simp
@[simp] theorem attnEn_overtake (h : Handle) (p : Pos) : (s.overtake h p).attnEn = s.attnEn := by
  unfold overtake
  repeat' split
  all_goals simp
@[simp] theorem settings_overtake (h : Handle) (p : Pos) : (s.overtake h p).settings = s.settings := by
  unfold overtake
  repeat' split
  all_goals simp
@[simp] theorem port_overtake (h : Handle) (p : Pos) : (s.overtake h p).port = s.port := by
  unfold overtake
  repeat' split
  all_goals simp
@[simp] theorem cmd_overtake (h : Handle) (p : Pos) : (s.overtake h p).cmd = s.cmd := by
  unfold overtake
  repeat' split
  all_goals simp
@[simp] theorem due_overtake (h : Handle) (p : Pos) : (s.overtake h p).due = s.due := by
  unfold overtake
  repeat' split
  all_goals simp
@[simp] theorem pending_overtake (h : Handle) (p : Pos) : (s.overtake h p).pending = s.pending := by
  unfold overtake
  repeat' split
  all_goals simp

@[simp] theorem fg_completeMove (h : Handle) (p : Pos) : (s.completeMove h p).fg = s.fg := by
  unfold completeMove
  repeat' split
  all_goals simp
@[simp] theorem slots_completeMove (h : Handle) (p : Pos) : (s.completeMove h p).slots = s.slots := by
  unfold completeMove
  repeat' split
  all_goals simp
@[simp] theorem leases_completeMove (h : Handle) (p : Pos) : (s.completeMove h p).leases = s.leases := by
  unfold completeMove
  repeat' split
  all_goals simp
@[simp] theorem requests_completeMove (h : Handle) (p : Pos) : (s.completeMove h p).requests = s.requests := by
  unfold completeMove
  repeat' split
  all_goals simp
@[simp] theorem deferred_completeMove (h : Handle) (p : Pos) : (s.completeMove h p).deferred = s.deferred := by
  unfold completeMove
  repeat' split
  all_goals simp
@[simp] theorem roster_completeMove (h : Handle) (p : Pos) : (s.completeMove h p).roster = s.roster := by
  unfold completeMove
  repeat' split
  all_goals simp
@[simp] theorem turnPointer_completeMove (h : Handle) (p : Pos) : (s.completeMove h p).turnPointer = s.turnPointer := by
  unfold completeMove
  repeat' split
  all_goals simp
@[simp] theorem uplink_completeMove (h : Handle) (p : Pos) : (s.completeMove h p).uplink = s.uplink := by
  unfold completeMove
  repeat' split
  all_goals simp
@[simp] theorem notices_completeMove (h : Handle) (p : Pos) : (s.completeMove h p).notices = s.notices := by
  unfold completeMove
  repeat' split
  all_goals simp
@[simp] theorem credited_completeMove (h : Handle) (p : Pos) : (s.completeMove h p).credited = s.credited := by
  unfold completeMove
  repeat' split
  all_goals simp
@[simp] theorem attention_completeMove (h : Handle) (p : Pos) : (s.completeMove h p).attention = s.attention := by
  unfold completeMove
  repeat' split
  all_goals simp
@[simp] theorem attnEn_completeMove (h : Handle) (p : Pos) : (s.completeMove h p).attnEn = s.attnEn := by
  unfold completeMove
  repeat' split
  all_goals simp
@[simp] theorem settings_completeMove (h : Handle) (p : Pos) : (s.completeMove h p).settings = s.settings := by
  unfold completeMove
  repeat' split
  all_goals simp
@[simp] theorem port_completeMove (h : Handle) (p : Pos) : (s.completeMove h p).port = s.port := by
  unfold completeMove
  repeat' split
  all_goals simp
@[simp] theorem cmd_completeMove (h : Handle) (p : Pos) : (s.completeMove h p).cmd = s.cmd := by
  unfold completeMove
  repeat' split
  all_goals simp
@[simp] theorem due_completeMove (h : Handle) (p : Pos) : (s.completeMove h p).due = s.due := by
  unfold completeMove
  repeat' split
  all_goals simp
@[simp] theorem pending_completeMove (h : Handle) (p : Pos) : (s.completeMove h p).pending = s.pending := by
  unfold completeMove
  repeat' split
  all_goals simp

@[simp] theorem fg_endWorker : (s.endWorker).fg = s.fg := by
  simp [endWorker]
@[simp] theorem slots_endWorker : (s.endWorker).slots = s.slots := by
  simp [endWorker]
@[simp] theorem leases_endWorker : (s.endWorker).leases = s.leases := by
  simp [endWorker]
@[simp] theorem requests_endWorker : (s.endWorker).requests = s.requests := by
  simp [endWorker]
@[simp] theorem deferred_endWorker : (s.endWorker).deferred = s.deferred := by
  simp [endWorker]
@[simp] theorem roster_endWorker : (s.endWorker).roster = s.roster := by
  simp [endWorker]
@[simp] theorem turnPointer_endWorker : (s.endWorker).turnPointer = s.turnPointer := by
  simp [endWorker]
@[simp] theorem uplink_endWorker : (s.endWorker).uplink = s.uplink := by
  simp [endWorker]
@[simp] theorem notices_endWorker : (s.endWorker).notices = s.notices := by
  simp [endWorker]
@[simp] theorem credited_endWorker : (s.endWorker).credited = s.credited := by
  simp [endWorker]
@[simp] theorem attnEn_endWorker : (s.endWorker).attnEn = s.attnEn := by
  simp [endWorker]
@[simp] theorem settings_endWorker : (s.endWorker).settings = s.settings := by
  simp [endWorker]
@[simp] theorem port_endWorker : (s.endWorker).port = s.port := by
  simp [endWorker]
@[simp] theorem cmd_endWorker : (s.endWorker).cmd = s.cmd := by
  simp [endWorker]
@[simp] theorem due_endWorker : (s.endWorker).due = s.due := by
  simp [endWorker]
@[simp] theorem pending_endWorker : (s.endWorker).pending = s.pending := by
  simp [endWorker]

@[simp] theorem fg_forgetGrantCopy (l : Lease) (h : Handle) : (s.forgetGrantCopy l h).fg = s.fg := by
  unfold forgetGrantCopy
  repeat' split
  all_goals simp
@[simp] theorem slots_forgetGrantCopy (l : Lease) (h : Handle) : (s.forgetGrantCopy l h).slots = s.slots := by
  unfold forgetGrantCopy
  repeat' split
  all_goals simp
@[simp] theorem leases_forgetGrantCopy (l : Lease) (h : Handle) : (s.forgetGrantCopy l h).leases = s.leases := by
  unfold forgetGrantCopy
  repeat' split
  all_goals simp
@[simp] theorem engine_forgetGrantCopy (l : Lease) (h : Handle) : (s.forgetGrantCopy l h).engine = s.engine := by
  unfold forgetGrantCopy
  repeat' split
  all_goals simp
@[simp] theorem requests_forgetGrantCopy (l : Lease) (h : Handle) : (s.forgetGrantCopy l h).requests = s.requests := by
  unfold forgetGrantCopy
  repeat' split
  all_goals simp
@[simp] theorem deferred_forgetGrantCopy (l : Lease) (h : Handle) : (s.forgetGrantCopy l h).deferred = s.deferred := by
  unfold forgetGrantCopy
  repeat' split
  all_goals simp
@[simp] theorem worker_forgetGrantCopy (l : Lease) (h : Handle) : (s.forgetGrantCopy l h).worker = s.worker := by
  unfold forgetGrantCopy
  repeat' split
  all_goals simp
@[simp] theorem turnPointer_forgetGrantCopy (l : Lease) (h : Handle) : (s.forgetGrantCopy l h).turnPointer = s.turnPointer := by
  unfold forgetGrantCopy
  repeat' split
  all_goals simp
@[simp] theorem uplink_forgetGrantCopy (l : Lease) (h : Handle) : (s.forgetGrantCopy l h).uplink = s.uplink := by
  unfold forgetGrantCopy
  repeat' split
  all_goals simp
@[simp] theorem notices_forgetGrantCopy (l : Lease) (h : Handle) : (s.forgetGrantCopy l h).notices = s.notices := by
  unfold forgetGrantCopy
  repeat' split
  all_goals simp
@[simp] theorem credited_forgetGrantCopy (l : Lease) (h : Handle) : (s.forgetGrantCopy l h).credited = s.credited := by
  unfold forgetGrantCopy
  repeat' split
  all_goals simp
@[simp] theorem attention_forgetGrantCopy (l : Lease) (h : Handle) : (s.forgetGrantCopy l h).attention = s.attention := by
  unfold forgetGrantCopy
  repeat' split
  all_goals simp
@[simp] theorem attnEn_forgetGrantCopy (l : Lease) (h : Handle) : (s.forgetGrantCopy l h).attnEn = s.attnEn := by
  unfold forgetGrantCopy
  repeat' split
  all_goals simp
@[simp] theorem settings_forgetGrantCopy (l : Lease) (h : Handle) : (s.forgetGrantCopy l h).settings = s.settings := by
  unfold forgetGrantCopy
  repeat' split
  all_goals simp
@[simp] theorem port_forgetGrantCopy (l : Lease) (h : Handle) : (s.forgetGrantCopy l h).port = s.port := by
  unfold forgetGrantCopy
  repeat' split
  all_goals simp
@[simp] theorem cmd_forgetGrantCopy (l : Lease) (h : Handle) : (s.forgetGrantCopy l h).cmd = s.cmd := by
  unfold forgetGrantCopy
  repeat' split
  all_goals simp
@[simp] theorem due_forgetGrantCopy (l : Lease) (h : Handle) : (s.forgetGrantCopy l h).due = s.due := by
  unfold forgetGrantCopy
  repeat' split
  all_goals simp
@[simp] theorem pending_forgetGrantCopy (l : Lease) (h : Handle) : (s.forgetGrantCopy l h).pending = s.pending := by
  unfold forgetGrantCopy
  repeat' split
  all_goals simp

@[simp] theorem fg_freeLease (i : LeaseIdx) (r : EndReason) : (s.freeLease i r).fg = s.fg := rfl
@[simp] theorem slots_freeLease (i : LeaseIdx) (r : EndReason) : (s.freeLease i r).slots = s.slots := rfl
@[simp] theorem engine_freeLease (i : LeaseIdx) (r : EndReason) : (s.freeLease i r).engine = s.engine := rfl
@[simp] theorem requests_freeLease (i : LeaseIdx) (r : EndReason) : (s.freeLease i r).requests = s.requests := rfl
@[simp] theorem deferred_freeLease (i : LeaseIdx) (r : EndReason) : (s.freeLease i r).deferred = s.deferred := rfl
@[simp] theorem worker_freeLease (i : LeaseIdx) (r : EndReason) : (s.freeLease i r).worker = s.worker := rfl
@[simp] theorem roster_freeLease (i : LeaseIdx) (r : EndReason) : (s.freeLease i r).roster = s.roster := rfl
@[simp] theorem turnPointer_freeLease (i : LeaseIdx) (r : EndReason) : (s.freeLease i r).turnPointer = s.turnPointer := rfl
@[simp] theorem uplink_freeLease (i : LeaseIdx) (r : EndReason) : (s.freeLease i r).uplink = s.uplink := rfl
@[simp] theorem notices_freeLease (i : LeaseIdx) (r : EndReason) : (s.freeLease i r).notices = s.notices := rfl
@[simp] theorem credited_freeLease (i : LeaseIdx) (r : EndReason) : (s.freeLease i r).credited = s.credited := rfl
@[simp] theorem attention_freeLease (i : LeaseIdx) (r : EndReason) : (s.freeLease i r).attention = s.attention := rfl
@[simp] theorem attnEn_freeLease (i : LeaseIdx) (r : EndReason) : (s.freeLease i r).attnEn = s.attnEn := rfl
@[simp] theorem settings_freeLease (i : LeaseIdx) (r : EndReason) : (s.freeLease i r).settings = s.settings := rfl
@[simp] theorem port_freeLease (i : LeaseIdx) (r : EndReason) : (s.freeLease i r).port = s.port := rfl
@[simp] theorem cmd_freeLease (i : LeaseIdx) (r : EndReason) : (s.freeLease i r).cmd = s.cmd := rfl
@[simp] theorem due_freeLease (i : LeaseIdx) (r : EndReason) : (s.freeLease i r).due = s.due := rfl
@[simp] theorem pending_freeLease (i : LeaseIdx) (r : EndReason) : (s.freeLease i r).pending = s.pending := rfl

@[simp] theorem fg_retire (i : LeaseIdx) (r : EndReason) : (s.retire i r).fg = s.fg := by
  unfold retire
  repeat' split
  all_goals simp
@[simp] theorem requests_retire (i : LeaseIdx) (r : EndReason) : (s.retire i r).requests = s.requests := by
  unfold retire
  repeat' split
  all_goals simp
@[simp] theorem deferred_retire (i : LeaseIdx) (r : EndReason) : (s.retire i r).deferred = s.deferred := by
  unfold retire
  repeat' split
  all_goals simp
@[simp] theorem turnPointer_retire (i : LeaseIdx) (r : EndReason) : (s.retire i r).turnPointer = s.turnPointer := by
  unfold retire
  repeat' split
  all_goals simp
@[simp] theorem uplink_retire (i : LeaseIdx) (r : EndReason) : (s.retire i r).uplink = s.uplink := by
  unfold retire
  repeat' split
  all_goals simp
@[simp] theorem credited_retire (i : LeaseIdx) (r : EndReason) : (s.retire i r).credited = s.credited := by
  unfold retire
  repeat' split
  all_goals simp
@[simp] theorem attention_retire (i : LeaseIdx) (r : EndReason) : (s.retire i r).attention = s.attention := by
  unfold retire
  repeat' split
  all_goals simp
@[simp] theorem attnEn_retire (i : LeaseIdx) (r : EndReason) : (s.retire i r).attnEn = s.attnEn := by
  unfold retire
  repeat' split
  all_goals simp
@[simp] theorem settings_retire (i : LeaseIdx) (r : EndReason) : (s.retire i r).settings = s.settings := by
  unfold retire
  repeat' split
  all_goals simp
@[simp] theorem port_retire (i : LeaseIdx) (r : EndReason) : (s.retire i r).port = s.port := by
  unfold retire
  repeat' split
  all_goals simp
@[simp] theorem cmd_retire (i : LeaseIdx) (r : EndReason) : (s.retire i r).cmd = s.cmd := by
  unfold retire
  repeat' split
  all_goals simp
@[simp] theorem due_retire (i : LeaseIdx) (r : EndReason) : (s.retire i r).due = s.due := by
  unfold retire
  repeat' split
  all_goals simp
@[simp] theorem pending_retire (i : LeaseIdx) (r : EndReason) : (s.retire i r).pending = s.pending := by
  unfold retire
  repeat' split
  all_goals simp

@[simp] theorem fg_tellHolder (l : Lease) (h : Handle) (b : NoticeBody) : (s.tellHolder l h b).fg = s.fg := by
  unfold tellHolder
  repeat' split
  all_goals simp
@[simp] theorem slots_tellHolder (l : Lease) (h : Handle) (b : NoticeBody) : (s.tellHolder l h b).slots = s.slots := by
  unfold tellHolder
  repeat' split
  all_goals simp
@[simp] theorem leases_tellHolder (l : Lease) (h : Handle) (b : NoticeBody) : (s.tellHolder l h b).leases = s.leases := by
  unfold tellHolder
  repeat' split
  all_goals simp
@[simp] theorem engine_tellHolder (l : Lease) (h : Handle) (b : NoticeBody) : (s.tellHolder l h b).engine = s.engine := by
  unfold tellHolder
  repeat' split
  all_goals simp
@[simp] theorem requests_tellHolder (l : Lease) (h : Handle) (b : NoticeBody) : (s.tellHolder l h b).requests = s.requests := by
  unfold tellHolder
  repeat' split
  all_goals simp
@[simp] theorem deferred_tellHolder (l : Lease) (h : Handle) (b : NoticeBody) : (s.tellHolder l h b).deferred = s.deferred := by
  unfold tellHolder
  repeat' split
  all_goals simp
@[simp] theorem worker_tellHolder (l : Lease) (h : Handle) (b : NoticeBody) : (s.tellHolder l h b).worker = s.worker := by
  unfold tellHolder
  repeat' split
  all_goals simp
@[simp] theorem roster_tellHolder (l : Lease) (h : Handle) (b : NoticeBody) : (s.tellHolder l h b).roster = s.roster := by
  unfold tellHolder
  repeat' split
  all_goals simp
@[simp] theorem turnPointer_tellHolder (l : Lease) (h : Handle) (b : NoticeBody) : (s.tellHolder l h b).turnPointer = s.turnPointer := by
  unfold tellHolder
  repeat' split
  all_goals simp
@[simp] theorem uplink_tellHolder (l : Lease) (h : Handle) (b : NoticeBody) : (s.tellHolder l h b).uplink = s.uplink := by
  unfold tellHolder
  repeat' split
  all_goals simp
@[simp] theorem credited_tellHolder (l : Lease) (h : Handle) (b : NoticeBody) : (s.tellHolder l h b).credited = s.credited := by
  unfold tellHolder
  repeat' split
  all_goals simp
@[simp] theorem attnEn_tellHolder (l : Lease) (h : Handle) (b : NoticeBody) : (s.tellHolder l h b).attnEn = s.attnEn := by
  unfold tellHolder
  repeat' split
  all_goals simp
@[simp] theorem settings_tellHolder (l : Lease) (h : Handle) (b : NoticeBody) : (s.tellHolder l h b).settings = s.settings := by
  unfold tellHolder
  repeat' split
  all_goals simp
@[simp] theorem port_tellHolder (l : Lease) (h : Handle) (b : NoticeBody) : (s.tellHolder l h b).port = s.port := by
  unfold tellHolder
  repeat' split
  all_goals simp
@[simp] theorem cmd_tellHolder (l : Lease) (h : Handle) (b : NoticeBody) : (s.tellHolder l h b).cmd = s.cmd := by
  unfold tellHolder
  repeat' split
  all_goals simp
@[simp] theorem due_tellHolder (l : Lease) (h : Handle) (b : NoticeBody) : (s.tellHolder l h b).due = s.due := by
  unfold tellHolder
  repeat' split
  all_goals simp
@[simp] theorem pending_tellHolder (l : Lease) (h : Handle) (b : NoticeBody) : (s.tellHolder l h b).pending = s.pending := by
  unfold tellHolder
  repeat' split
  all_goals simp

@[simp] theorem fg_retireVacated (i : LeaseIdx) : (s.retireVacated i).fg = s.fg := by
  unfold retireVacated
  repeat' split
  all_goals simp
@[simp] theorem requests_retireVacated (i : LeaseIdx) : (s.retireVacated i).requests = s.requests := by
  unfold retireVacated
  repeat' split
  all_goals simp
@[simp] theorem deferred_retireVacated (i : LeaseIdx) : (s.retireVacated i).deferred = s.deferred := by
  unfold retireVacated
  repeat' split
  all_goals simp
@[simp] theorem turnPointer_retireVacated (i : LeaseIdx) : (s.retireVacated i).turnPointer = s.turnPointer := by
  unfold retireVacated
  repeat' split
  all_goals simp
@[simp] theorem uplink_retireVacated (i : LeaseIdx) : (s.retireVacated i).uplink = s.uplink := by
  unfold retireVacated
  repeat' split
  all_goals simp
@[simp] theorem credited_retireVacated (i : LeaseIdx) : (s.retireVacated i).credited = s.credited := by
  unfold retireVacated
  repeat' split
  all_goals simp
@[simp] theorem attnEn_retireVacated (i : LeaseIdx) : (s.retireVacated i).attnEn = s.attnEn := by
  unfold retireVacated
  repeat' split
  all_goals simp
@[simp] theorem settings_retireVacated (i : LeaseIdx) : (s.retireVacated i).settings = s.settings := by
  unfold retireVacated
  repeat' split
  all_goals simp
@[simp] theorem port_retireVacated (i : LeaseIdx) : (s.retireVacated i).port = s.port := by
  unfold retireVacated
  repeat' split
  all_goals simp
@[simp] theorem cmd_retireVacated (i : LeaseIdx) : (s.retireVacated i).cmd = s.cmd := by
  unfold retireVacated
  repeat' split
  all_goals simp
@[simp] theorem due_retireVacated (i : LeaseIdx) : (s.retireVacated i).due = s.due := by
  unfold retireVacated
  repeat' split
  all_goals simp
@[simp] theorem pending_retireVacated (i : LeaseIdx) : (s.retireVacated i).pending = s.pending := by
  unfold retireVacated
  repeat' split
  all_goals simp

@[simp] theorem fg_reclaim (i : LeaseIdx) (r : EndReason) : (s.reclaim i r).fg = s.fg := by
  unfold reclaim
  repeat' split
  all_goals simp
@[simp] theorem requests_reclaim (i : LeaseIdx) (r : EndReason) : (s.reclaim i r).requests = s.requests := by
  unfold reclaim
  repeat' split
  all_goals simp
@[simp] theorem deferred_reclaim (i : LeaseIdx) (r : EndReason) : (s.reclaim i r).deferred = s.deferred := by
  unfold reclaim
  repeat' split
  all_goals simp
@[simp] theorem turnPointer_reclaim (i : LeaseIdx) (r : EndReason) : (s.reclaim i r).turnPointer = s.turnPointer := by
  unfold reclaim
  repeat' split
  all_goals simp
@[simp] theorem uplink_reclaim (i : LeaseIdx) (r : EndReason) : (s.reclaim i r).uplink = s.uplink := by
  unfold reclaim
  repeat' split
  all_goals simp
@[simp] theorem credited_reclaim (i : LeaseIdx) (r : EndReason) : (s.reclaim i r).credited = s.credited := by
  unfold reclaim
  repeat' split
  all_goals simp
@[simp] theorem attnEn_reclaim (i : LeaseIdx) (r : EndReason) : (s.reclaim i r).attnEn = s.attnEn := by
  unfold reclaim
  repeat' split
  all_goals simp
@[simp] theorem settings_reclaim (i : LeaseIdx) (r : EndReason) : (s.reclaim i r).settings = s.settings := by
  unfold reclaim
  repeat' split
  all_goals simp
@[simp] theorem port_reclaim (i : LeaseIdx) (r : EndReason) : (s.reclaim i r).port = s.port := by
  unfold reclaim
  repeat' split
  all_goals simp
@[simp] theorem cmd_reclaim (i : LeaseIdx) (r : EndReason) : (s.reclaim i r).cmd = s.cmd := by
  unfold reclaim
  repeat' split
  all_goals simp
@[simp] theorem due_reclaim (i : LeaseIdx) (r : EndReason) : (s.reclaim i r).due = s.due := by
  unfold reclaim
  repeat' split
  all_goals simp
@[simp] theorem pending_reclaim (i : LeaseIdx) (r : EndReason) : (s.reclaim i r).pending = s.pending := by
  unfold reclaim
  repeat' split
  all_goals simp

@[simp] theorem fg_removeMove (i : LeaseIdx) : (s.removeMove i).fg = s.fg := by
  unfold removeMove
  repeat' split
  all_goals simp
@[simp] theorem requests_removeMove (i : LeaseIdx) : (s.removeMove i).requests = s.requests := by
  unfold removeMove
  repeat' split
  all_goals simp
@[simp] theorem deferred_removeMove (i : LeaseIdx) : (s.removeMove i).deferred = s.deferred := by
  unfold removeMove
  repeat' split
  all_goals simp
@[simp] theorem roster_removeMove (i : LeaseIdx) : (s.removeMove i).roster = s.roster := by
  unfold removeMove
  repeat' split
  all_goals simp
@[simp] theorem turnPointer_removeMove (i : LeaseIdx) : (s.removeMove i).turnPointer = s.turnPointer := by
  unfold removeMove
  repeat' split
  all_goals simp
@[simp] theorem uplink_removeMove (i : LeaseIdx) : (s.removeMove i).uplink = s.uplink := by
  unfold removeMove
  repeat' split
  all_goals simp
@[simp] theorem credited_removeMove (i : LeaseIdx) : (s.removeMove i).credited = s.credited := by
  unfold removeMove
  repeat' split
  all_goals simp
@[simp] theorem attention_removeMove (i : LeaseIdx) : (s.removeMove i).attention = s.attention := by
  unfold removeMove
  repeat' split
  all_goals simp
@[simp] theorem attnEn_removeMove (i : LeaseIdx) : (s.removeMove i).attnEn = s.attnEn := by
  unfold removeMove
  repeat' split
  all_goals simp
@[simp] theorem settings_removeMove (i : LeaseIdx) : (s.removeMove i).settings = s.settings := by
  unfold removeMove
  repeat' split
  all_goals simp
@[simp] theorem port_removeMove (i : LeaseIdx) : (s.removeMove i).port = s.port := by
  unfold removeMove
  repeat' split
  all_goals simp
@[simp] theorem cmd_removeMove (i : LeaseIdx) : (s.removeMove i).cmd = s.cmd := by
  unfold removeMove
  repeat' split
  all_goals simp
@[simp] theorem due_removeMove (i : LeaseIdx) : (s.removeMove i).due = s.due := by
  unfold removeMove
  repeat' split
  all_goals simp
@[simp] theorem pending_removeMove (i : LeaseIdx) : (s.removeMove i).pending = s.pending := by
  unfold removeMove
  repeat' split
  all_goals simp

@[simp] theorem fg_decideEnd (i : LeaseIdx) (r : EndReason) : (s.decideEnd i r).fg = s.fg := by
  unfold decideEnd
  dsimp only
  split <;> split <;> simp
@[simp] theorem requests_decideEnd (i : LeaseIdx) (r : EndReason) : (s.decideEnd i r).requests = s.requests := by
  unfold decideEnd
  dsimp only
  split <;> split <;> simp
@[simp] theorem deferred_decideEnd (i : LeaseIdx) (r : EndReason) : (s.decideEnd i r).deferred = s.deferred := by
  unfold decideEnd
  dsimp only
  split <;> split <;> simp
@[simp] theorem roster_decideEnd (i : LeaseIdx) (r : EndReason) : (s.decideEnd i r).roster = s.roster := by
  unfold decideEnd
  dsimp only
  split <;> split <;> simp
@[simp] theorem turnPointer_decideEnd (i : LeaseIdx) (r : EndReason) : (s.decideEnd i r).turnPointer = s.turnPointer := by
  unfold decideEnd
  dsimp only
  split <;> split <;> simp
@[simp] theorem uplink_decideEnd (i : LeaseIdx) (r : EndReason) : (s.decideEnd i r).uplink = s.uplink := by
  unfold decideEnd
  dsimp only
  split <;> split <;> simp
@[simp] theorem credited_decideEnd (i : LeaseIdx) (r : EndReason) : (s.decideEnd i r).credited = s.credited := by
  unfold decideEnd
  dsimp only
  split <;> split <;> simp
@[simp] theorem attention_decideEnd (i : LeaseIdx) (r : EndReason) : (s.decideEnd i r).attention = s.attention := by
  unfold decideEnd
  dsimp only
  split <;> split <;> simp
@[simp] theorem attnEn_decideEnd (i : LeaseIdx) (r : EndReason) : (s.decideEnd i r).attnEn = s.attnEn := by
  unfold decideEnd
  dsimp only
  split <;> split <;> simp
@[simp] theorem settings_decideEnd (i : LeaseIdx) (r : EndReason) : (s.decideEnd i r).settings = s.settings := by
  unfold decideEnd
  dsimp only
  split <;> split <;> simp
@[simp] theorem port_decideEnd (i : LeaseIdx) (r : EndReason) : (s.decideEnd i r).port = s.port := by
  unfold decideEnd
  dsimp only
  split <;> split <;> simp
@[simp] theorem cmd_decideEnd (i : LeaseIdx) (r : EndReason) : (s.decideEnd i r).cmd = s.cmd := by
  unfold decideEnd
  dsimp only
  split <;> split <;> simp
@[simp] theorem due_decideEnd (i : LeaseIdx) (r : EndReason) : (s.decideEnd i r).due = s.due := by
  unfold decideEnd
  dsimp only
  split <;> split <;> simp
@[simp] theorem pending_decideEnd (i : LeaseIdx) (r : EndReason) : (s.decideEnd i r).pending = s.pending := by
  unfold decideEnd
  dsimp only
  split <;> split <;> simp

@[simp] theorem fg_setRetireFlag (t : Trib) (b : Bool) : (s.setRetireFlag t b).fg = s.fg := rfl
@[simp] theorem slots_setRetireFlag (t : Trib) (b : Bool) : (s.setRetireFlag t b).slots = s.slots := rfl
@[simp] theorem leases_setRetireFlag (t : Trib) (b : Bool) : (s.setRetireFlag t b).leases = s.leases := rfl
@[simp] theorem requests_setRetireFlag (t : Trib) (b : Bool) : (s.setRetireFlag t b).requests = s.requests := rfl
@[simp] theorem deferred_setRetireFlag (t : Trib) (b : Bool) : (s.setRetireFlag t b).deferred = s.deferred := rfl
@[simp] theorem worker_setRetireFlag (t : Trib) (b : Bool) : (s.setRetireFlag t b).worker = s.worker := rfl
@[simp] theorem roster_setRetireFlag (t : Trib) (b : Bool) : (s.setRetireFlag t b).roster = s.roster := rfl
@[simp] theorem turnPointer_setRetireFlag (t : Trib) (b : Bool) : (s.setRetireFlag t b).turnPointer = s.turnPointer := rfl
@[simp] theorem uplink_setRetireFlag (t : Trib) (b : Bool) : (s.setRetireFlag t b).uplink = s.uplink := rfl
@[simp] theorem notices_setRetireFlag (t : Trib) (b : Bool) : (s.setRetireFlag t b).notices = s.notices := rfl
@[simp] theorem credited_setRetireFlag (t : Trib) (b : Bool) : (s.setRetireFlag t b).credited = s.credited := rfl
@[simp] theorem attention_setRetireFlag (t : Trib) (b : Bool) : (s.setRetireFlag t b).attention = s.attention := rfl
@[simp] theorem attnEn_setRetireFlag (t : Trib) (b : Bool) : (s.setRetireFlag t b).attnEn = s.attnEn := rfl
@[simp] theorem settings_setRetireFlag (t : Trib) (b : Bool) : (s.setRetireFlag t b).settings = s.settings := rfl
@[simp] theorem port_setRetireFlag (t : Trib) (b : Bool) : (s.setRetireFlag t b).port = s.port := rfl
@[simp] theorem cmd_setRetireFlag (t : Trib) (b : Bool) : (s.setRetireFlag t b).cmd = s.cmd := rfl
@[simp] theorem due_setRetireFlag (t : Trib) (b : Bool) : (s.setRetireFlag t b).due = s.due := rfl
@[simp] theorem pending_setRetireFlag (t : Trib) (b : Bool) : (s.setRetireFlag t b).pending = s.pending := rfl

@[simp] theorem fg_clearEntry (t : Trib) (f : RosterState) : (s.clearEntry t f).fg = s.fg := rfl
@[simp] theorem slots_clearEntry (t : Trib) (f : RosterState) : (s.clearEntry t f).slots = s.slots := rfl
@[simp] theorem leases_clearEntry (t : Trib) (f : RosterState) : (s.clearEntry t f).leases = s.leases := rfl
@[simp] theorem engine_clearEntry (t : Trib) (f : RosterState) : (s.clearEntry t f).engine = s.engine := rfl
@[simp] theorem requests_clearEntry (t : Trib) (f : RosterState) : (s.clearEntry t f).requests = s.requests := rfl
@[simp] theorem deferred_clearEntry (t : Trib) (f : RosterState) : (s.clearEntry t f).deferred = s.deferred := rfl
@[simp] theorem worker_clearEntry (t : Trib) (f : RosterState) : (s.clearEntry t f).worker = s.worker := rfl
@[simp] theorem turnPointer_clearEntry (t : Trib) (f : RosterState) : (s.clearEntry t f).turnPointer = s.turnPointer := rfl
@[simp] theorem uplink_clearEntry (t : Trib) (f : RosterState) : (s.clearEntry t f).uplink = s.uplink := rfl
@[simp] theorem notices_clearEntry (t : Trib) (f : RosterState) : (s.clearEntry t f).notices = s.notices := rfl
@[simp] theorem credited_clearEntry (t : Trib) (f : RosterState) : (s.clearEntry t f).credited = s.credited := rfl
@[simp] theorem attention_clearEntry (t : Trib) (f : RosterState) : (s.clearEntry t f).attention = s.attention := rfl
@[simp] theorem attnEn_clearEntry (t : Trib) (f : RosterState) : (s.clearEntry t f).attnEn = s.attnEn := rfl
@[simp] theorem settings_clearEntry (t : Trib) (f : RosterState) : (s.clearEntry t f).settings = s.settings := rfl
@[simp] theorem port_clearEntry (t : Trib) (f : RosterState) : (s.clearEntry t f).port = s.port := rfl
@[simp] theorem cmd_clearEntry (t : Trib) (f : RosterState) : (s.clearEntry t f).cmd = s.cmd := rfl
@[simp] theorem due_clearEntry (t : Trib) (f : RosterState) : (s.clearEntry t f).due = s.due := rfl
@[simp] theorem pending_clearEntry (t : Trib) (f : RosterState) : (s.clearEntry t f).pending = s.pending := rfl

@[simp] theorem fg_retireEach (r : EndReason) (is : List LeaseIdx) :
    (is.foldl (fun s i => s.retire i r) s).fg = s.fg := by
  induction is generalizing s with
  | nil => rfl
  | cons i is ih => simp [ih]
@[simp] theorem requests_retireEach (r : EndReason) (is : List LeaseIdx) :
    (is.foldl (fun s i => s.retire i r) s).requests = s.requests := by
  induction is generalizing s with
  | nil => rfl
  | cons i is ih => simp [ih]
@[simp] theorem deferred_retireEach (r : EndReason) (is : List LeaseIdx) :
    (is.foldl (fun s i => s.retire i r) s).deferred = s.deferred := by
  induction is generalizing s with
  | nil => rfl
  | cons i is ih => simp [ih]
@[simp] theorem turnPointer_retireEach (r : EndReason) (is : List LeaseIdx) :
    (is.foldl (fun s i => s.retire i r) s).turnPointer = s.turnPointer := by
  induction is generalizing s with
  | nil => rfl
  | cons i is ih => simp [ih]
@[simp] theorem uplink_retireEach (r : EndReason) (is : List LeaseIdx) :
    (is.foldl (fun s i => s.retire i r) s).uplink = s.uplink := by
  induction is generalizing s with
  | nil => rfl
  | cons i is ih => simp [ih]
@[simp] theorem credited_retireEach (r : EndReason) (is : List LeaseIdx) :
    (is.foldl (fun s i => s.retire i r) s).credited = s.credited := by
  induction is generalizing s with
  | nil => rfl
  | cons i is ih => simp [ih]
@[simp] theorem attention_retireEach (r : EndReason) (is : List LeaseIdx) :
    (is.foldl (fun s i => s.retire i r) s).attention = s.attention := by
  induction is generalizing s with
  | nil => rfl
  | cons i is ih => simp [ih]
@[simp] theorem attnEn_retireEach (r : EndReason) (is : List LeaseIdx) :
    (is.foldl (fun s i => s.retire i r) s).attnEn = s.attnEn := by
  induction is generalizing s with
  | nil => rfl
  | cons i is ih => simp [ih]
@[simp] theorem settings_retireEach (r : EndReason) (is : List LeaseIdx) :
    (is.foldl (fun s i => s.retire i r) s).settings = s.settings := by
  induction is generalizing s with
  | nil => rfl
  | cons i is ih => simp [ih]
@[simp] theorem port_retireEach (r : EndReason) (is : List LeaseIdx) :
    (is.foldl (fun s i => s.retire i r) s).port = s.port := by
  induction is generalizing s with
  | nil => rfl
  | cons i is ih => simp [ih]
@[simp] theorem cmd_retireEach (r : EndReason) (is : List LeaseIdx) :
    (is.foldl (fun s i => s.retire i r) s).cmd = s.cmd := by
  induction is generalizing s with
  | nil => rfl
  | cons i is ih => simp [ih]
@[simp] theorem due_retireEach (r : EndReason) (is : List LeaseIdx) :
    (is.foldl (fun s i => s.retire i r) s).due = s.due := by
  induction is generalizing s with
  | nil => rfl
  | cons i is ih => simp [ih]
@[simp] theorem pending_retireEach (r : EndReason) (is : List LeaseIdx) :
    (is.foldl (fun s i => s.retire i r) s).pending = s.pending := by
  induction is generalizing s with
  | nil => rfl
  | cons i is ih => simp [ih]

@[simp] theorem fg_holderRemoval (t : Trib) (r : EndReason) (f : RosterState) : (s.holderRemoval t r f).fg = s.fg := by
  simp [holderRemoval]
@[simp] theorem turnPointer_holderRemoval (t : Trib) (r : EndReason) (f : RosterState) : (s.holderRemoval t r f).turnPointer = s.turnPointer := by
  simp [holderRemoval]
@[simp] theorem uplink_holderRemoval (t : Trib) (r : EndReason) (f : RosterState) : (s.holderRemoval t r f).uplink = s.uplink := by
  simp [holderRemoval]
@[simp] theorem credited_holderRemoval (t : Trib) (r : EndReason) (f : RosterState) : (s.holderRemoval t r f).credited = s.credited := by
  simp [holderRemoval]
@[simp] theorem attnEn_holderRemoval (t : Trib) (r : EndReason) (f : RosterState) : (s.holderRemoval t r f).attnEn = s.attnEn := by
  simp [holderRemoval]
@[simp] theorem settings_holderRemoval (t : Trib) (r : EndReason) (f : RosterState) : (s.holderRemoval t r f).settings = s.settings := by
  simp [holderRemoval]
@[simp] theorem port_holderRemoval (t : Trib) (r : EndReason) (f : RosterState) : (s.holderRemoval t r f).port = s.port := by
  simp [holderRemoval]
@[simp] theorem cmd_holderRemoval (t : Trib) (r : EndReason) (f : RosterState) : (s.holderRemoval t r f).cmd = s.cmd := by
  simp [holderRemoval]
@[simp] theorem due_holderRemoval (t : Trib) (r : EndReason) (f : RosterState) : (s.holderRemoval t r f).due = s.due := by
  simp [holderRemoval]
@[simp] theorem pending_holderRemoval (t : Trib) (r : EndReason) (f : RosterState) : (s.holderRemoval t r f).pending = s.pending := by
  simp [holderRemoval]

@[simp] theorem fg_serve (r : Requester) : (s.serve r).fg = s.fg := rfl
@[simp] theorem slots_serve (r : Requester) : (s.serve r).slots = s.slots := rfl
@[simp] theorem leases_serve (r : Requester) : (s.serve r).leases = s.leases := rfl
@[simp] theorem requests_serve (r : Requester) : (s.serve r).requests = s.requests := rfl
@[simp] theorem deferred_serve (r : Requester) : (s.serve r).deferred = s.deferred := rfl
@[simp] theorem worker_serve (r : Requester) : (s.serve r).worker = s.worker := rfl
@[simp] theorem roster_serve (r : Requester) : (s.serve r).roster = s.roster := rfl
@[simp] theorem turnPointer_serve (r : Requester) : (s.serve r).turnPointer = s.turnPointer := rfl
@[simp] theorem uplink_serve (r : Requester) : (s.serve r).uplink = s.uplink := rfl
@[simp] theorem notices_serve (r : Requester) : (s.serve r).notices = s.notices := rfl
@[simp] theorem credited_serve (r : Requester) : (s.serve r).credited = s.credited := rfl
@[simp] theorem attention_serve (r : Requester) : (s.serve r).attention = s.attention := rfl
@[simp] theorem attnEn_serve (r : Requester) : (s.serve r).attnEn = s.attnEn := rfl
@[simp] theorem settings_serve (r : Requester) : (s.serve r).settings = s.settings := rfl
@[simp] theorem port_serve (r : Requester) : (s.serve r).port = s.port := rfl
@[simp] theorem cmd_serve (r : Requester) : (s.serve r).cmd = s.cmd := rfl
@[simp] theorem due_serve (r : Requester) : (s.serve r).due = s.due := rfl
@[simp] theorem pending_serve (r : Requester) : (s.serve r).pending = s.pending := rfl

end Sys2Proof.Machine.State
end

