-- ==== Sys2Proof/Laws/Settle.lean ====
section
/-!
SUPPORT. The frames of the reports and of settling: for each, one lemma for each field that it leaves unchanged.
-/
namespace Sys2Proof.Machine.State

variable (s : State)

/-- What every step of a fold leaves unchanged, the fold leaves unchanged. -/
theorem foldl_frame {α β : Type} (g : State → β) (f : State → α → State) (h : ∀ s a, g (f s a) = g s) (l : List α)
    (s : State) : g (l.foldl f s) = g s := by
  induction l generalizing s with
  | nil => rfl
  | cons a as ih => rw [List.foldl_cons, ih, h]


@[simp] theorem fg_reportVacated (i : LeaseIdx) : (s.reportVacated i).fg = s.fg := by
  unfold reportVacated
  repeat' split
  all_goals simp
@[simp] theorem requests_reportVacated (i : LeaseIdx) : (s.reportVacated i).requests = s.requests := by
  unfold reportVacated
  repeat' split
  all_goals simp
@[simp] theorem deferred_reportVacated (i : LeaseIdx) : (s.reportVacated i).deferred = s.deferred := by
  unfold reportVacated
  repeat' split
  all_goals simp
@[simp] theorem turnPointer_reportVacated (i : LeaseIdx) : (s.reportVacated i).turnPointer = s.turnPointer := by
  unfold reportVacated
  repeat' split
  all_goals simp
@[simp] theorem uplink_reportVacated (i : LeaseIdx) : (s.reportVacated i).uplink = s.uplink := by
  unfold reportVacated
  repeat' split
  all_goals simp
@[simp] theorem credited_reportVacated (i : LeaseIdx) : (s.reportVacated i).credited = s.credited := by
  unfold reportVacated
  repeat' split
  all_goals simp
@[simp] theorem attnEn_reportVacated (i : LeaseIdx) : (s.reportVacated i).attnEn = s.attnEn := by
  unfold reportVacated
  repeat' split
  all_goals simp
@[simp] theorem settings_reportVacated (i : LeaseIdx) : (s.reportVacated i).settings = s.settings := by
  unfold reportVacated
  repeat' split
  all_goals simp
@[simp] theorem port_reportVacated (i : LeaseIdx) : (s.reportVacated i).port = s.port := by
  unfold reportVacated
  repeat' split
  all_goals simp
@[simp] theorem cmd_reportVacated (i : LeaseIdx) : (s.reportVacated i).cmd = s.cmd := by
  unfold reportVacated
  repeat' split
  all_goals simp
@[simp] theorem due_reportVacated (i : LeaseIdx) : (s.reportVacated i).due = s.due := by
  unfold reportVacated
  repeat' split
  all_goals simp
@[simp] theorem pending_reportVacated (i : LeaseIdx) : (s.reportVacated i).pending = s.pending := by
  unfold reportVacated
  repeat' split
  all_goals simp

@[simp] theorem fg_vacateStep : (s.vacateStep).fg = s.fg := by
  unfold vacateStep
  refine (foldl_frame (fun t => t.fg) _ (fun _ _ => by simp) _ _).trans ?_
  simp
@[simp] theorem requests_vacateStep : (s.vacateStep).requests = s.requests := by
  unfold vacateStep
  refine (foldl_frame (fun t => t.requests) _ (fun _ _ => by simp) _ _).trans ?_
  simp
@[simp] theorem deferred_vacateStep : (s.vacateStep).deferred = s.deferred := by
  unfold vacateStep
  refine (foldl_frame (fun t => t.deferred) _ (fun _ _ => by simp) _ _).trans ?_
  simp
@[simp] theorem turnPointer_vacateStep : (s.vacateStep).turnPointer = s.turnPointer := by
  unfold vacateStep
  refine (foldl_frame (fun t => t.turnPointer) _ (fun _ _ => by simp) _ _).trans ?_
  simp
@[simp] theorem uplink_vacateStep : (s.vacateStep).uplink = s.uplink := by
  unfold vacateStep
  refine (foldl_frame (fun t => t.uplink) _ (fun _ _ => by simp) _ _).trans ?_
  simp
@[simp] theorem credited_vacateStep : (s.vacateStep).credited = s.credited := by
  unfold vacateStep
  refine (foldl_frame (fun t => t.credited) _ (fun _ _ => by simp) _ _).trans ?_
  simp
@[simp] theorem attnEn_vacateStep : (s.vacateStep).attnEn = s.attnEn := by
  unfold vacateStep
  refine (foldl_frame (fun t => t.attnEn) _ (fun _ _ => by simp) _ _).trans ?_
  simp
@[simp] theorem settings_vacateStep : (s.vacateStep).settings = s.settings := by
  unfold vacateStep
  refine (foldl_frame (fun t => t.settings) _ (fun _ _ => by simp) _ _).trans ?_
  simp
@[simp] theorem port_vacateStep : (s.vacateStep).port = s.port := by
  unfold vacateStep
  refine (foldl_frame (fun t => t.port) _ (fun _ _ => by simp) _ _).trans ?_
  simp
@[simp] theorem cmd_vacateStep : (s.vacateStep).cmd = s.cmd := by
  unfold vacateStep
  refine (foldl_frame (fun t => t.cmd) _ (fun _ _ => by simp) _ _).trans ?_
  simp
@[simp] theorem due_vacateStep : (s.vacateStep).due = s.due := by
  unfold vacateStep
  refine (foldl_frame (fun t => t.due) _ (fun _ _ => by simp) _ _).trans ?_
  simp
@[simp] theorem pending_vacateStep : (s.vacateStep).pending = s.pending := by
  unfold vacateStep
  refine (foldl_frame (fun t => t.pending) _ (fun _ _ => by simp) _ _).trans ?_
  simp

@[simp] theorem fg_guardStep : (s.guardStep).fg = s.fg := by
  simp [guardStep]
@[simp] theorem leases_guardStep : (s.guardStep).leases = s.leases := by
  simp [guardStep]
@[simp] theorem requests_guardStep : (s.guardStep).requests = s.requests := by
  simp [guardStep]
@[simp] theorem deferred_guardStep : (s.guardStep).deferred = s.deferred := by
  simp [guardStep]
@[simp] theorem worker_guardStep : (s.guardStep).worker = s.worker := by
  simp [guardStep]
@[simp] theorem roster_guardStep : (s.guardStep).roster = s.roster := by
  simp [guardStep]
@[simp] theorem turnPointer_guardStep : (s.guardStep).turnPointer = s.turnPointer := by
  simp [guardStep]
@[simp] theorem uplink_guardStep : (s.guardStep).uplink = s.uplink := by
  simp [guardStep]
@[simp] theorem notices_guardStep : (s.guardStep).notices = s.notices := by
  simp [guardStep]
@[simp] theorem credited_guardStep : (s.guardStep).credited = s.credited := by
  simp [guardStep]
@[simp] theorem attention_guardStep : (s.guardStep).attention = s.attention := by
  simp [guardStep]
@[simp] theorem attnEn_guardStep : (s.guardStep).attnEn = s.attnEn := by
  simp [guardStep]
@[simp] theorem settings_guardStep : (s.guardStep).settings = s.settings := by
  simp [guardStep]
@[simp] theorem port_guardStep : (s.guardStep).port = s.port := by
  simp [guardStep]
@[simp] theorem cmd_guardStep : (s.guardStep).cmd = s.cmd := by
  simp [guardStep]
@[simp] theorem due_guardStep : (s.guardStep).due = s.due := by
  simp [guardStep]
@[simp] theorem pending_guardStep : (s.guardStep).pending = s.pending := by
  simp [guardStep]

@[simp] theorem fg_moveArrived (i : LeaseIdx) (l : Lease) (p : Pos) : (s.moveArrived i l p).fg = s.fg := by
  simp [moveArrived]
@[simp] theorem slots_moveArrived (i : LeaseIdx) (l : Lease) (p : Pos) : (s.moveArrived i l p).slots = s.slots := by
  simp [moveArrived]
@[simp] theorem requests_moveArrived (i : LeaseIdx) (l : Lease) (p : Pos) : (s.moveArrived i l p).requests = s.requests := by
  simp [moveArrived]
@[simp] theorem deferred_moveArrived (i : LeaseIdx) (l : Lease) (p : Pos) : (s.moveArrived i l p).deferred = s.deferred := by
  simp [moveArrived]
@[simp] theorem roster_moveArrived (i : LeaseIdx) (l : Lease) (p : Pos) : (s.moveArrived i l p).roster = s.roster := by
  simp [moveArrived]
@[simp] theorem turnPointer_moveArrived (i : LeaseIdx) (l : Lease) (p : Pos) : (s.moveArrived i l p).turnPointer = s.turnPointer := by
  simp [moveArrived]
@[simp] theorem uplink_moveArrived (i : LeaseIdx) (l : Lease) (p : Pos) : (s.moveArrived i l p).uplink = s.uplink := by
  simp [moveArrived]
@[simp] theorem notices_moveArrived (i : LeaseIdx) (l : Lease) (p : Pos) : (s.moveArrived i l p).notices = s.notices := by
  simp [moveArrived]
@[simp] theorem credited_moveArrived (i : LeaseIdx) (l : Lease) (p : Pos) : (s.moveArrived i l p).credited = s.credited := by
  simp [moveArrived]
@[simp] theorem attention_moveArrived (i : LeaseIdx) (l : Lease) (p : Pos) : (s.moveArrived i l p).attention = s.attention := by
  simp [moveArrived]
@[simp] theorem attnEn_moveArrived (i : LeaseIdx) (l : Lease) (p : Pos) : (s.moveArrived i l p).attnEn = s.attnEn := by
  simp [moveArrived]
@[simp] theorem settings_moveArrived (i : LeaseIdx) (l : Lease) (p : Pos) : (s.moveArrived i l p).settings = s.settings := by
  simp [moveArrived]
@[simp] theorem port_moveArrived (i : LeaseIdx) (l : Lease) (p : Pos) : (s.moveArrived i l p).port = s.port := by
  simp [moveArrived]
@[simp] theorem cmd_moveArrived (i : LeaseIdx) (l : Lease) (p : Pos) : (s.moveArrived i l p).cmd = s.cmd := by
  simp [moveArrived]
@[simp] theorem due_moveArrived (i : LeaseIdx) (l : Lease) (p : Pos) : (s.moveArrived i l p).due = s.due := by
  simp [moveArrived]
@[simp] theorem pending_moveArrived (i : LeaseIdx) (l : Lease) (p : Pos) : (s.moveArrived i l p).pending = s.pending := by
  simp [moveArrived]

@[simp] theorem fg_leaseLive (i : LeaseIdx) (l : Lease) : (s.leaseLive i l).fg = s.fg := by
  simp [leaseLive]
@[simp] theorem engine_leaseLive (i : LeaseIdx) (l : Lease) : (s.leaseLive i l).engine = s.engine := by
  simp [leaseLive]
@[simp] theorem requests_leaseLive (i : LeaseIdx) (l : Lease) : (s.leaseLive i l).requests = s.requests := by
  simp [leaseLive]
@[simp] theorem deferred_leaseLive (i : LeaseIdx) (l : Lease) : (s.leaseLive i l).deferred = s.deferred := by
  simp [leaseLive]
@[simp] theorem worker_leaseLive (i : LeaseIdx) (l : Lease) : (s.leaseLive i l).worker = s.worker := by
  simp [leaseLive]
@[simp] theorem roster_leaseLive (i : LeaseIdx) (l : Lease) : (s.leaseLive i l).roster = s.roster := by
  simp [leaseLive]
@[simp] theorem turnPointer_leaseLive (i : LeaseIdx) (l : Lease) : (s.leaseLive i l).turnPointer = s.turnPointer := by
  simp [leaseLive]
@[simp] theorem uplink_leaseLive (i : LeaseIdx) (l : Lease) : (s.leaseLive i l).uplink = s.uplink := by
  simp [leaseLive]
@[simp] theorem notices_leaseLive (i : LeaseIdx) (l : Lease) : (s.leaseLive i l).notices = s.notices := by
  simp [leaseLive]
@[simp] theorem credited_leaseLive (i : LeaseIdx) (l : Lease) : (s.leaseLive i l).credited = s.credited := by
  simp [leaseLive]
@[simp] theorem attention_leaseLive (i : LeaseIdx) (l : Lease) : (s.leaseLive i l).attention = s.attention := by
  simp [leaseLive]
@[simp] theorem attnEn_leaseLive (i : LeaseIdx) (l : Lease) : (s.leaseLive i l).attnEn = s.attnEn := by
  simp [leaseLive]
@[simp] theorem settings_leaseLive (i : LeaseIdx) (l : Lease) : (s.leaseLive i l).settings = s.settings := by
  simp [leaseLive]
@[simp] theorem port_leaseLive (i : LeaseIdx) (l : Lease) : (s.leaseLive i l).port = s.port := by
  simp [leaseLive]
@[simp] theorem cmd_leaseLive (i : LeaseIdx) (l : Lease) : (s.leaseLive i l).cmd = s.cmd := by
  simp [leaseLive]
@[simp] theorem due_leaseLive (i : LeaseIdx) (l : Lease) : (s.leaseLive i l).due = s.due := by
  simp [leaseLive]
@[simp] theorem pending_leaseLive (i : LeaseIdx) (l : Lease) : (s.leaseLive i l).pending = s.pending := by
  simp [leaseLive]

@[simp] theorem fg_reportLive (i : LeaseIdx) : (s.reportLive i).fg = s.fg := by
  unfold reportLive
  repeat' split
  all_goals simp
@[simp] theorem requests_reportLive (i : LeaseIdx) : (s.reportLive i).requests = s.requests := by
  unfold reportLive
  repeat' split
  all_goals simp
@[simp] theorem deferred_reportLive (i : LeaseIdx) : (s.reportLive i).deferred = s.deferred := by
  unfold reportLive
  repeat' split
  all_goals simp
@[simp] theorem roster_reportLive (i : LeaseIdx) : (s.reportLive i).roster = s.roster := by
  unfold reportLive
  repeat' split
  all_goals simp
@[simp] theorem turnPointer_reportLive (i : LeaseIdx) : (s.reportLive i).turnPointer = s.turnPointer := by
  unfold reportLive
  repeat' split
  all_goals simp
@[simp] theorem uplink_reportLive (i : LeaseIdx) : (s.reportLive i).uplink = s.uplink := by
  unfold reportLive
  repeat' split
  all_goals simp
@[simp] theorem notices_reportLive (i : LeaseIdx) : (s.reportLive i).notices = s.notices := by
  unfold reportLive
  repeat' split
  all_goals simp
@[simp] theorem credited_reportLive (i : LeaseIdx) : (s.reportLive i).credited = s.credited := by
  unfold reportLive
  repeat' split
  all_goals simp
@[simp] theorem attention_reportLive (i : LeaseIdx) : (s.reportLive i).attention = s.attention := by
  unfold reportLive
  repeat' split
  all_goals simp
@[simp] theorem attnEn_reportLive (i : LeaseIdx) : (s.reportLive i).attnEn = s.attnEn := by
  unfold reportLive
  repeat' split
  all_goals simp
@[simp] theorem settings_reportLive (i : LeaseIdx) : (s.reportLive i).settings = s.settings := by
  unfold reportLive
  repeat' split
  all_goals simp
@[simp] theorem port_reportLive (i : LeaseIdx) : (s.reportLive i).port = s.port := by
  unfold reportLive
  repeat' split
  all_goals simp
@[simp] theorem cmd_reportLive (i : LeaseIdx) : (s.reportLive i).cmd = s.cmd := by
  unfold reportLive
  repeat' split
  all_goals simp
@[simp] theorem due_reportLive (i : LeaseIdx) : (s.reportLive i).due = s.due := by
  unfold reportLive
  repeat' split
  all_goals simp
@[simp] theorem pending_reportLive (i : LeaseIdx) : (s.reportLive i).pending = s.pending := by
  unfold reportLive
  repeat' split
  all_goals simp

@[simp] theorem fg_goLiveStep : (s.goLiveStep).fg = s.fg := by
  unfold goLiveStep
  refine (foldl_frame (fun t => t.fg) _ (fun _ _ => by simp) _ _).trans ?_
  simp
@[simp] theorem requests_goLiveStep : (s.goLiveStep).requests = s.requests := by
  unfold goLiveStep
  refine (foldl_frame (fun t => t.requests) _ (fun _ _ => by simp) _ _).trans ?_
  simp
@[simp] theorem deferred_goLiveStep : (s.goLiveStep).deferred = s.deferred := by
  unfold goLiveStep
  refine (foldl_frame (fun t => t.deferred) _ (fun _ _ => by simp) _ _).trans ?_
  simp
@[simp] theorem roster_goLiveStep : (s.goLiveStep).roster = s.roster := by
  unfold goLiveStep
  refine (foldl_frame (fun t => t.roster) _ (fun _ _ => by simp) _ _).trans ?_
  simp
@[simp] theorem turnPointer_goLiveStep : (s.goLiveStep).turnPointer = s.turnPointer := by
  unfold goLiveStep
  refine (foldl_frame (fun t => t.turnPointer) _ (fun _ _ => by simp) _ _).trans ?_
  simp
@[simp] theorem uplink_goLiveStep : (s.goLiveStep).uplink = s.uplink := by
  unfold goLiveStep
  refine (foldl_frame (fun t => t.uplink) _ (fun _ _ => by simp) _ _).trans ?_
  simp
@[simp] theorem notices_goLiveStep : (s.goLiveStep).notices = s.notices := by
  unfold goLiveStep
  refine (foldl_frame (fun t => t.notices) _ (fun _ _ => by simp) _ _).trans ?_
  simp
@[simp] theorem credited_goLiveStep : (s.goLiveStep).credited = s.credited := by
  unfold goLiveStep
  refine (foldl_frame (fun t => t.credited) _ (fun _ _ => by simp) _ _).trans ?_
  simp
@[simp] theorem attention_goLiveStep : (s.goLiveStep).attention = s.attention := by
  unfold goLiveStep
  refine (foldl_frame (fun t => t.attention) _ (fun _ _ => by simp) _ _).trans ?_
  simp
@[simp] theorem attnEn_goLiveStep : (s.goLiveStep).attnEn = s.attnEn := by
  unfold goLiveStep
  refine (foldl_frame (fun t => t.attnEn) _ (fun _ _ => by simp) _ _).trans ?_
  simp
@[simp] theorem settings_goLiveStep : (s.goLiveStep).settings = s.settings := by
  unfold goLiveStep
  refine (foldl_frame (fun t => t.settings) _ (fun _ _ => by simp) _ _).trans ?_
  simp
@[simp] theorem port_goLiveStep : (s.goLiveStep).port = s.port := by
  unfold goLiveStep
  refine (foldl_frame (fun t => t.port) _ (fun _ _ => by simp) _ _).trans ?_
  simp
@[simp] theorem cmd_goLiveStep : (s.goLiveStep).cmd = s.cmd := by
  unfold goLiveStep
  refine (foldl_frame (fun t => t.cmd) _ (fun _ _ => by simp) _ _).trans ?_
  simp
@[simp] theorem due_goLiveStep : (s.goLiveStep).due = s.due := by
  unfold goLiveStep
  refine (foldl_frame (fun t => t.due) _ (fun _ _ => by simp) _ _).trans ?_
  simp
@[simp] theorem pending_goLiveStep : (s.goLiveStep).pending = s.pending := by
  unfold goLiveStep
  refine (foldl_frame (fun t => t.pending) _ (fun _ _ => by simp) _ _).trans ?_
  simp

@[simp] theorem fg_untilInRange (i : LeaseIdx) : (s.untilInRange i).fg = s.fg := by
  unfold untilInRange
  repeat' split
  all_goals simp
@[simp] theorem leases_untilInRange (i : LeaseIdx) : (s.untilInRange i).leases = s.leases := by
  unfold untilInRange
  repeat' split
  all_goals simp
@[simp] theorem engine_untilInRange (i : LeaseIdx) : (s.untilInRange i).engine = s.engine := by
  unfold untilInRange
  repeat' split
  all_goals simp
@[simp] theorem requests_untilInRange (i : LeaseIdx) : (s.untilInRange i).requests = s.requests := by
  unfold untilInRange
  repeat' split
  all_goals simp
@[simp] theorem deferred_untilInRange (i : LeaseIdx) : (s.untilInRange i).deferred = s.deferred := by
  unfold untilInRange
  repeat' split
  all_goals simp
@[simp] theorem worker_untilInRange (i : LeaseIdx) : (s.untilInRange i).worker = s.worker := by
  unfold untilInRange
  repeat' split
  all_goals simp
@[simp] theorem roster_untilInRange (i : LeaseIdx) : (s.untilInRange i).roster = s.roster := by
  unfold untilInRange
  repeat' split
  all_goals simp
@[simp] theorem turnPointer_untilInRange (i : LeaseIdx) : (s.untilInRange i).turnPointer = s.turnPointer := by
  unfold untilInRange
  repeat' split
  all_goals simp
@[simp] theorem uplink_untilInRange (i : LeaseIdx) : (s.untilInRange i).uplink = s.uplink := by
  unfold untilInRange
  repeat' split
  all_goals simp
@[simp] theorem notices_untilInRange (i : LeaseIdx) : (s.untilInRange i).notices = s.notices := by
  unfold untilInRange
  repeat' split
  all_goals simp
@[simp] theorem credited_untilInRange (i : LeaseIdx) : (s.untilInRange i).credited = s.credited := by
  unfold untilInRange
  repeat' split
  all_goals simp
@[simp] theorem attention_untilInRange (i : LeaseIdx) : (s.untilInRange i).attention = s.attention := by
  unfold untilInRange
  repeat' split
  all_goals simp
@[simp] theorem attnEn_untilInRange (i : LeaseIdx) : (s.untilInRange i).attnEn = s.attnEn := by
  unfold untilInRange
  repeat' split
  all_goals simp
@[simp] theorem settings_untilInRange (i : LeaseIdx) : (s.untilInRange i).settings = s.settings := by
  unfold untilInRange
  repeat' split
  all_goals simp
@[simp] theorem port_untilInRange (i : LeaseIdx) : (s.untilInRange i).port = s.port := by
  unfold untilInRange
  repeat' split
  all_goals simp
@[simp] theorem cmd_untilInRange (i : LeaseIdx) : (s.untilInRange i).cmd = s.cmd := by
  unfold untilInRange
  repeat' split
  all_goals simp
@[simp] theorem due_untilInRange (i : LeaseIdx) : (s.untilInRange i).due = s.due := by
  unfold untilInRange
  repeat' split
  all_goals simp
@[simp] theorem pending_untilInRange (i : LeaseIdx) : (s.untilInRange i).pending = s.pending := by
  unfold untilInRange
  repeat' split
  all_goals simp

@[simp] theorem fg_untilsStep : (s.untilsStep).fg = s.fg := by
  unfold untilsStep
  refine (foldl_frame (fun t => t.fg) _ (fun _ _ => by simp) _ _).trans ?_
  simp
@[simp] theorem leases_untilsStep : (s.untilsStep).leases = s.leases := by
  unfold untilsStep
  refine (foldl_frame (fun t => t.leases) _ (fun _ _ => by simp) _ _).trans ?_
  simp
@[simp] theorem engine_untilsStep : (s.untilsStep).engine = s.engine := by
  unfold untilsStep
  refine (foldl_frame (fun t => t.engine) _ (fun _ _ => by simp) _ _).trans ?_
  simp
@[simp] theorem requests_untilsStep : (s.untilsStep).requests = s.requests := by
  unfold untilsStep
  refine (foldl_frame (fun t => t.requests) _ (fun _ _ => by simp) _ _).trans ?_
  simp
@[simp] theorem deferred_untilsStep : (s.untilsStep).deferred = s.deferred := by
  unfold untilsStep
  refine (foldl_frame (fun t => t.deferred) _ (fun _ _ => by simp) _ _).trans ?_
  simp
@[simp] theorem worker_untilsStep : (s.untilsStep).worker = s.worker := by
  unfold untilsStep
  refine (foldl_frame (fun t => t.worker) _ (fun _ _ => by simp) _ _).trans ?_
  simp
@[simp] theorem roster_untilsStep : (s.untilsStep).roster = s.roster := by
  unfold untilsStep
  refine (foldl_frame (fun t => t.roster) _ (fun _ _ => by simp) _ _).trans ?_
  simp
@[simp] theorem turnPointer_untilsStep : (s.untilsStep).turnPointer = s.turnPointer := by
  unfold untilsStep
  refine (foldl_frame (fun t => t.turnPointer) _ (fun _ _ => by simp) _ _).trans ?_
  simp
@[simp] theorem uplink_untilsStep : (s.untilsStep).uplink = s.uplink := by
  unfold untilsStep
  refine (foldl_frame (fun t => t.uplink) _ (fun _ _ => by simp) _ _).trans ?_
  simp
@[simp] theorem notices_untilsStep : (s.untilsStep).notices = s.notices := by
  unfold untilsStep
  refine (foldl_frame (fun t => t.notices) _ (fun _ _ => by simp) _ _).trans ?_
  simp
@[simp] theorem credited_untilsStep : (s.untilsStep).credited = s.credited := by
  unfold untilsStep
  refine (foldl_frame (fun t => t.credited) _ (fun _ _ => by simp) _ _).trans ?_
  simp
@[simp] theorem attention_untilsStep : (s.untilsStep).attention = s.attention := by
  unfold untilsStep
  refine (foldl_frame (fun t => t.attention) _ (fun _ _ => by simp) _ _).trans ?_
  simp
@[simp] theorem attnEn_untilsStep : (s.untilsStep).attnEn = s.attnEn := by
  unfold untilsStep
  refine (foldl_frame (fun t => t.attnEn) _ (fun _ _ => by simp) _ _).trans ?_
  simp
@[simp] theorem settings_untilsStep : (s.untilsStep).settings = s.settings := by
  unfold untilsStep
  refine (foldl_frame (fun t => t.settings) _ (fun _ _ => by simp) _ _).trans ?_
  simp
@[simp] theorem port_untilsStep : (s.untilsStep).port = s.port := by
  unfold untilsStep
  refine (foldl_frame (fun t => t.port) _ (fun _ _ => by simp) _ _).trans ?_
  simp
@[simp] theorem cmd_untilsStep : (s.untilsStep).cmd = s.cmd := by
  unfold untilsStep
  refine (foldl_frame (fun t => t.cmd) _ (fun _ _ => by simp) _ _).trans ?_
  simp
@[simp] theorem due_untilsStep : (s.untilsStep).due = s.due := by
  unfold untilsStep
  refine (foldl_frame (fun t => t.due) _ (fun _ _ => by simp) _ _).trans ?_
  simp
@[simp] theorem pending_untilsStep : (s.untilsStep).pending = s.pending := by
  unfold untilsStep
  refine (foldl_frame (fun t => t.pending) _ (fun _ _ => by simp) _ _).trans ?_
  simp

@[simp] theorem fg_endMoveOf (i : LeaseIdx) : (s.endMoveOf i).fg = s.fg := by
  unfold endMoveOf
  repeat' split
  all_goals simp
@[simp] theorem requests_endMoveOf (i : LeaseIdx) : (s.endMoveOf i).requests = s.requests := by
  unfold endMoveOf
  repeat' split
  all_goals simp
@[simp] theorem deferred_endMoveOf (i : LeaseIdx) : (s.endMoveOf i).deferred = s.deferred := by
  unfold endMoveOf
  repeat' split
  all_goals simp
@[simp] theorem turnPointer_endMoveOf (i : LeaseIdx) : (s.endMoveOf i).turnPointer = s.turnPointer := by
  unfold endMoveOf
  repeat' split
  all_goals simp
@[simp] theorem uplink_endMoveOf (i : LeaseIdx) : (s.endMoveOf i).uplink = s.uplink := by
  unfold endMoveOf
  repeat' split
  all_goals simp
@[simp] theorem credited_endMoveOf (i : LeaseIdx) : (s.endMoveOf i).credited = s.credited := by
  unfold endMoveOf
  repeat' split
  all_goals simp
@[simp] theorem attnEn_endMoveOf (i : LeaseIdx) : (s.endMoveOf i).attnEn = s.attnEn := by
  unfold endMoveOf
  repeat' split
  all_goals simp
@[simp] theorem settings_endMoveOf (i : LeaseIdx) : (s.endMoveOf i).settings = s.settings := by
  unfold endMoveOf
  repeat' split
  all_goals simp
@[simp] theorem port_endMoveOf (i : LeaseIdx) : (s.endMoveOf i).port = s.port := by
  unfold endMoveOf
  repeat' split
  all_goals simp
@[simp] theorem cmd_endMoveOf (i : LeaseIdx) : (s.endMoveOf i).cmd = s.cmd := by
  unfold endMoveOf
  repeat' split
  all_goals simp
@[simp] theorem due_endMoveOf (i : LeaseIdx) : (s.endMoveOf i).due = s.due := by
  unfold endMoveOf
  repeat' split
  all_goals simp
@[simp] theorem pending_endMoveOf (i : LeaseIdx) : (s.endMoveOf i).pending = s.pending := by
  unfold endMoveOf
  repeat' split
  all_goals simp

@[simp] theorem fg_moveEndsStep : (s.moveEndsStep).fg = s.fg := by
  unfold moveEndsStep
  refine (foldl_frame (fun t => t.fg) _ (fun _ _ => by simp) _ _).trans ?_
  simp
@[simp] theorem requests_moveEndsStep : (s.moveEndsStep).requests = s.requests := by
  unfold moveEndsStep
  refine (foldl_frame (fun t => t.requests) _ (fun _ _ => by simp) _ _).trans ?_
  simp
@[simp] theorem deferred_moveEndsStep : (s.moveEndsStep).deferred = s.deferred := by
  unfold moveEndsStep
  refine (foldl_frame (fun t => t.deferred) _ (fun _ _ => by simp) _ _).trans ?_
  simp
@[simp] theorem turnPointer_moveEndsStep : (s.moveEndsStep).turnPointer = s.turnPointer := by
  unfold moveEndsStep
  refine (foldl_frame (fun t => t.turnPointer) _ (fun _ _ => by simp) _ _).trans ?_
  simp
@[simp] theorem uplink_moveEndsStep : (s.moveEndsStep).uplink = s.uplink := by
  unfold moveEndsStep
  refine (foldl_frame (fun t => t.uplink) _ (fun _ _ => by simp) _ _).trans ?_
  simp
@[simp] theorem credited_moveEndsStep : (s.moveEndsStep).credited = s.credited := by
  unfold moveEndsStep
  refine (foldl_frame (fun t => t.credited) _ (fun _ _ => by simp) _ _).trans ?_
  simp
@[simp] theorem attnEn_moveEndsStep : (s.moveEndsStep).attnEn = s.attnEn := by
  unfold moveEndsStep
  refine (foldl_frame (fun t => t.attnEn) _ (fun _ _ => by simp) _ _).trans ?_
  simp
@[simp] theorem settings_moveEndsStep : (s.moveEndsStep).settings = s.settings := by
  unfold moveEndsStep
  refine (foldl_frame (fun t => t.settings) _ (fun _ _ => by simp) _ _).trans ?_
  simp
@[simp] theorem port_moveEndsStep : (s.moveEndsStep).port = s.port := by
  unfold moveEndsStep
  refine (foldl_frame (fun t => t.port) _ (fun _ _ => by simp) _ _).trans ?_
  simp
@[simp] theorem cmd_moveEndsStep : (s.moveEndsStep).cmd = s.cmd := by
  unfold moveEndsStep
  refine (foldl_frame (fun t => t.cmd) _ (fun _ _ => by simp) _ _).trans ?_
  simp
@[simp] theorem due_moveEndsStep : (s.moveEndsStep).due = s.due := by
  unfold moveEndsStep
  refine (foldl_frame (fun t => t.due) _ (fun _ _ => by simp) _ _).trans ?_
  simp
@[simp] theorem pending_moveEndsStep : (s.moveEndsStep).pending = s.pending := by
  unfold moveEndsStep
  refine (foldl_frame (fun t => t.pending) _ (fun _ _ => by simp) _ _).trans ?_
  simp

@[simp] theorem fg_refuseDeferred (r : RefusalReason) (d : Deferred) : (s.refuseDeferred r d).fg = s.fg := by
  simp [refuseDeferred]
@[simp] theorem slots_refuseDeferred (r : RefusalReason) (d : Deferred) : (s.refuseDeferred r d).slots = s.slots := by
  simp [refuseDeferred]
@[simp] theorem leases_refuseDeferred (r : RefusalReason) (d : Deferred) : (s.refuseDeferred r d).leases = s.leases := by
  simp [refuseDeferred]
@[simp] theorem engine_refuseDeferred (r : RefusalReason) (d : Deferred) : (s.refuseDeferred r d).engine = s.engine := by
  simp [refuseDeferred]
@[simp] theorem requests_refuseDeferred (r : RefusalReason) (d : Deferred) : (s.refuseDeferred r d).requests = s.requests := by
  simp [refuseDeferred]
@[simp] theorem deferred_refuseDeferred (r : RefusalReason) (d : Deferred) : (s.refuseDeferred r d).deferred = s.deferred := by
  simp [refuseDeferred]
@[simp] theorem worker_refuseDeferred (r : RefusalReason) (d : Deferred) : (s.refuseDeferred r d).worker = s.worker := by
  simp [refuseDeferred]
@[simp] theorem roster_refuseDeferred (r : RefusalReason) (d : Deferred) : (s.refuseDeferred r d).roster = s.roster := by
  simp [refuseDeferred]
@[simp] theorem turnPointer_refuseDeferred (r : RefusalReason) (d : Deferred) : (s.refuseDeferred r d).turnPointer = s.turnPointer := by
  simp [refuseDeferred]
@[simp] theorem uplink_refuseDeferred (r : RefusalReason) (d : Deferred) : (s.refuseDeferred r d).uplink = s.uplink := by
  simp [refuseDeferred]
@[simp] theorem credited_refuseDeferred (r : RefusalReason) (d : Deferred) : (s.refuseDeferred r d).credited = s.credited := by
  simp [refuseDeferred]
@[simp] theorem attnEn_refuseDeferred (r : RefusalReason) (d : Deferred) : (s.refuseDeferred r d).attnEn = s.attnEn := by
  simp [refuseDeferred]
@[simp] theorem settings_refuseDeferred (r : RefusalReason) (d : Deferred) : (s.refuseDeferred r d).settings = s.settings := by
  simp [refuseDeferred]
@[simp] theorem port_refuseDeferred (r : RefusalReason) (d : Deferred) : (s.refuseDeferred r d).port = s.port := by
  simp [refuseDeferred]
@[simp] theorem cmd_refuseDeferred (r : RefusalReason) (d : Deferred) : (s.refuseDeferred r d).cmd = s.cmd := by
  simp [refuseDeferred]
@[simp] theorem due_refuseDeferred (r : RefusalReason) (d : Deferred) : (s.refuseDeferred r d).due = s.due := by
  simp [refuseDeferred]
@[simp] theorem pending_refuseDeferred (r : RefusalReason) (d : Deferred) : (s.refuseDeferred r d).pending = s.pending := by
  simp [refuseDeferred]

@[simp] theorem fg_waitsStep : (s.waitsStep).fg = s.fg := by
  unfold waitsStep
  refine (foldl_frame (fun t => t.fg) _ (fun _ _ => by simp) _ _).trans ?_
  simp
@[simp] theorem slots_waitsStep : (s.waitsStep).slots = s.slots := by
  unfold waitsStep
  refine (foldl_frame (fun t => t.slots) _ (fun _ _ => by simp) _ _).trans ?_
  simp
@[simp] theorem leases_waitsStep : (s.waitsStep).leases = s.leases := by
  unfold waitsStep
  refine (foldl_frame (fun t => t.leases) _ (fun _ _ => by simp) _ _).trans ?_
  simp
@[simp] theorem engine_waitsStep : (s.waitsStep).engine = s.engine := by
  unfold waitsStep
  refine (foldl_frame (fun t => t.engine) _ (fun _ _ => by simp) _ _).trans ?_
  simp
@[simp] theorem requests_waitsStep : (s.waitsStep).requests = s.requests := by
  unfold waitsStep
  refine (foldl_frame (fun t => t.requests) _ (fun _ _ => by simp) _ _).trans ?_
  simp
@[simp] theorem worker_waitsStep : (s.waitsStep).worker = s.worker := by
  unfold waitsStep
  refine (foldl_frame (fun t => t.worker) _ (fun _ _ => by simp) _ _).trans ?_
  simp
@[simp] theorem roster_waitsStep : (s.waitsStep).roster = s.roster := by
  unfold waitsStep
  refine (foldl_frame (fun t => t.roster) _ (fun _ _ => by simp) _ _).trans ?_
  simp
@[simp] theorem turnPointer_waitsStep : (s.waitsStep).turnPointer = s.turnPointer := by
  unfold waitsStep
  refine (foldl_frame (fun t => t.turnPointer) _ (fun _ _ => by simp) _ _).trans ?_
  simp
@[simp] theorem uplink_waitsStep : (s.waitsStep).uplink = s.uplink := by
  unfold waitsStep
  refine (foldl_frame (fun t => t.uplink) _ (fun _ _ => by simp) _ _).trans ?_
  simp
@[simp] theorem credited_waitsStep : (s.waitsStep).credited = s.credited := by
  unfold waitsStep
  refine (foldl_frame (fun t => t.credited) _ (fun _ _ => by simp) _ _).trans ?_
  simp
@[simp] theorem attnEn_waitsStep : (s.waitsStep).attnEn = s.attnEn := by
  unfold waitsStep
  refine (foldl_frame (fun t => t.attnEn) _ (fun _ _ => by simp) _ _).trans ?_
  simp
@[simp] theorem settings_waitsStep : (s.waitsStep).settings = s.settings := by
  unfold waitsStep
  refine (foldl_frame (fun t => t.settings) _ (fun _ _ => by simp) _ _).trans ?_
  simp
@[simp] theorem port_waitsStep : (s.waitsStep).port = s.port := by
  unfold waitsStep
  refine (foldl_frame (fun t => t.port) _ (fun _ _ => by simp) _ _).trans ?_
  simp
@[simp] theorem cmd_waitsStep : (s.waitsStep).cmd = s.cmd := by
  unfold waitsStep
  refine (foldl_frame (fun t => t.cmd) _ (fun _ _ => by simp) _ _).trans ?_
  simp
@[simp] theorem due_waitsStep : (s.waitsStep).due = s.due := by
  unfold waitsStep
  refine (foldl_frame (fun t => t.due) _ (fun _ _ => by simp) _ _).trans ?_
  simp
@[simp] theorem pending_waitsStep : (s.waitsStep).pending = s.pending := by
  unfold waitsStep
  refine (foldl_frame (fun t => t.pending) _ (fun _ _ => by simp) _ _).trans ?_
  simp

@[simp] theorem fg_takeVacate : (s.takeVacate).fg = s.fg := by
  simp only [takeVacate]
  split <;> simp
@[simp] theorem requests_takeVacate : (s.takeVacate).requests = s.requests := by
  simp only [takeVacate]
  split <;> simp
@[simp] theorem deferred_takeVacate : (s.takeVacate).deferred = s.deferred := by
  simp only [takeVacate]
  split <;> simp
@[simp] theorem turnPointer_takeVacate : (s.takeVacate).turnPointer = s.turnPointer := by
  simp only [takeVacate]
  split <;> simp
@[simp] theorem uplink_takeVacate : (s.takeVacate).uplink = s.uplink := by
  simp only [takeVacate]
  split <;> simp
@[simp] theorem credited_takeVacate : (s.takeVacate).credited = s.credited := by
  simp only [takeVacate]
  split <;> simp
@[simp] theorem attnEn_takeVacate : (s.takeVacate).attnEn = s.attnEn := by
  simp only [takeVacate]
  split <;> simp
@[simp] theorem settings_takeVacate : (s.takeVacate).settings = s.settings := by
  simp only [takeVacate]
  split <;> simp
@[simp] theorem port_takeVacate : (s.takeVacate).port = s.port := by
  simp only [takeVacate]
  split <;> simp
@[simp] theorem cmd_takeVacate : (s.takeVacate).cmd = s.cmd := by
  simp only [takeVacate]
  split <;> simp
@[simp] theorem pending_takeVacate : (s.takeVacate).pending = s.pending := by
  simp only [takeVacate]
  split <;> simp

@[simp] theorem fg_takeGuardEnd : (s.takeGuardEnd).fg = s.fg := by
  simp only [takeGuardEnd]
  split <;> simp
@[simp] theorem requests_takeGuardEnd : (s.takeGuardEnd).requests = s.requests := by
  simp only [takeGuardEnd]
  split <;> simp
@[simp] theorem deferred_takeGuardEnd : (s.takeGuardEnd).deferred = s.deferred := by
  simp only [takeGuardEnd]
  split <;> simp
@[simp] theorem turnPointer_takeGuardEnd : (s.takeGuardEnd).turnPointer = s.turnPointer := by
  simp only [takeGuardEnd]
  split <;> simp
@[simp] theorem uplink_takeGuardEnd : (s.takeGuardEnd).uplink = s.uplink := by
  simp only [takeGuardEnd]
  split <;> simp
@[simp] theorem credited_takeGuardEnd : (s.takeGuardEnd).credited = s.credited := by
  simp only [takeGuardEnd]
  split <;> simp
@[simp] theorem attnEn_takeGuardEnd : (s.takeGuardEnd).attnEn = s.attnEn := by
  simp only [takeGuardEnd]
  split <;> simp
@[simp] theorem settings_takeGuardEnd : (s.takeGuardEnd).settings = s.settings := by
  simp only [takeGuardEnd]
  split <;> simp
@[simp] theorem port_takeGuardEnd : (s.takeGuardEnd).port = s.port := by
  simp only [takeGuardEnd]
  split <;> simp
@[simp] theorem cmd_takeGuardEnd : (s.takeGuardEnd).cmd = s.cmd := by
  simp only [takeGuardEnd]
  split <;> simp
@[simp] theorem pending_takeGuardEnd : (s.takeGuardEnd).pending = s.pending := by
  simp only [takeGuardEnd]
  split <;> simp

@[simp] theorem fg_takeGoLive : (s.takeGoLive).fg = s.fg := by
  simp only [takeGoLive]
  split <;> simp
@[simp] theorem requests_takeGoLive : (s.takeGoLive).requests = s.requests := by
  simp only [takeGoLive]
  split <;> simp
@[simp] theorem deferred_takeGoLive : (s.takeGoLive).deferred = s.deferred := by
  simp only [takeGoLive]
  split <;> simp
@[simp] theorem turnPointer_takeGoLive : (s.takeGoLive).turnPointer = s.turnPointer := by
  simp only [takeGoLive]
  split <;> simp
@[simp] theorem uplink_takeGoLive : (s.takeGoLive).uplink = s.uplink := by
  simp only [takeGoLive]
  split <;> simp
@[simp] theorem credited_takeGoLive : (s.takeGoLive).credited = s.credited := by
  simp only [takeGoLive]
  split <;> simp
@[simp] theorem attnEn_takeGoLive : (s.takeGoLive).attnEn = s.attnEn := by
  simp only [takeGoLive]
  split <;> simp
@[simp] theorem settings_takeGoLive : (s.takeGoLive).settings = s.settings := by
  simp only [takeGoLive]
  split <;> simp
@[simp] theorem port_takeGoLive : (s.takeGoLive).port = s.port := by
  simp only [takeGoLive]
  split <;> simp
@[simp] theorem cmd_takeGoLive : (s.takeGoLive).cmd = s.cmd := by
  simp only [takeGoLive]
  split <;> simp
@[simp] theorem pending_takeGoLive : (s.takeGoLive).pending = s.pending := by
  simp only [takeGoLive]
  split <;> simp

@[simp] theorem fg_takeUntils : (s.takeUntils).fg = s.fg := by
  simp only [takeUntils]
  split <;> simp
@[simp] theorem leases_takeUntils : (s.takeUntils).leases = s.leases := by
  simp only [takeUntils]
  split <;> simp
@[simp] theorem engine_takeUntils : (s.takeUntils).engine = s.engine := by
  simp only [takeUntils]
  split <;> simp
@[simp] theorem requests_takeUntils : (s.takeUntils).requests = s.requests := by
  simp only [takeUntils]
  split <;> simp
@[simp] theorem deferred_takeUntils : (s.takeUntils).deferred = s.deferred := by
  simp only [takeUntils]
  split <;> simp
@[simp] theorem worker_takeUntils : (s.takeUntils).worker = s.worker := by
  simp only [takeUntils]
  split <;> simp
@[simp] theorem roster_takeUntils : (s.takeUntils).roster = s.roster := by
  simp only [takeUntils]
  split <;> simp
@[simp] theorem turnPointer_takeUntils : (s.takeUntils).turnPointer = s.turnPointer := by
  simp only [takeUntils]
  split <;> simp
@[simp] theorem uplink_takeUntils : (s.takeUntils).uplink = s.uplink := by
  simp only [takeUntils]
  split <;> simp
@[simp] theorem notices_takeUntils : (s.takeUntils).notices = s.notices := by
  simp only [takeUntils]
  split <;> simp
@[simp] theorem credited_takeUntils : (s.takeUntils).credited = s.credited := by
  simp only [takeUntils]
  split <;> simp
@[simp] theorem attention_takeUntils : (s.takeUntils).attention = s.attention := by
  simp only [takeUntils]
  split <;> simp
@[simp] theorem attnEn_takeUntils : (s.takeUntils).attnEn = s.attnEn := by
  simp only [takeUntils]
  split <;> simp
@[simp] theorem settings_takeUntils : (s.takeUntils).settings = s.settings := by
  simp only [takeUntils]
  split <;> simp
@[simp] theorem port_takeUntils : (s.takeUntils).port = s.port := by
  simp only [takeUntils]
  split <;> simp
@[simp] theorem cmd_takeUntils : (s.takeUntils).cmd = s.cmd := by
  simp only [takeUntils]
  split <;> simp
@[simp] theorem pending_takeUntils : (s.takeUntils).pending = s.pending := by
  simp only [takeUntils]
  split <;> simp

@[simp] theorem fg_takeMoveEnds : (s.takeMoveEnds).fg = s.fg := by
  simp only [takeMoveEnds]
  split <;> simp
@[simp] theorem requests_takeMoveEnds : (s.takeMoveEnds).requests = s.requests := by
  simp only [takeMoveEnds]
  split <;> simp
@[simp] theorem deferred_takeMoveEnds : (s.takeMoveEnds).deferred = s.deferred := by
  simp only [takeMoveEnds]
  split <;> simp
@[simp] theorem turnPointer_takeMoveEnds : (s.takeMoveEnds).turnPointer = s.turnPointer := by
  simp only [takeMoveEnds]
  split <;> simp
@[simp] theorem uplink_takeMoveEnds : (s.takeMoveEnds).uplink = s.uplink := by
  simp only [takeMoveEnds]
  split <;> simp
@[simp] theorem credited_takeMoveEnds : (s.takeMoveEnds).credited = s.credited := by
  simp only [takeMoveEnds]
  split <;> simp
@[simp] theorem attnEn_takeMoveEnds : (s.takeMoveEnds).attnEn = s.attnEn := by
  simp only [takeMoveEnds]
  split <;> simp
@[simp] theorem settings_takeMoveEnds : (s.takeMoveEnds).settings = s.settings := by
  simp only [takeMoveEnds]
  split <;> simp
@[simp] theorem port_takeMoveEnds : (s.takeMoveEnds).port = s.port := by
  simp only [takeMoveEnds]
  split <;> simp
@[simp] theorem cmd_takeMoveEnds : (s.takeMoveEnds).cmd = s.cmd := by
  simp only [takeMoveEnds]
  split <;> simp
@[simp] theorem pending_takeMoveEnds : (s.takeMoveEnds).pending = s.pending := by
  simp only [takeMoveEnds]
  split <;> simp

@[simp] theorem fg_takeWaits : (s.takeWaits).fg = s.fg := by
  simp only [takeWaits]
  split <;> simp
@[simp] theorem slots_takeWaits : (s.takeWaits).slots = s.slots := by
  simp only [takeWaits]
  split <;> simp
@[simp] theorem leases_takeWaits : (s.takeWaits).leases = s.leases := by
  simp only [takeWaits]
  split <;> simp
@[simp] theorem engine_takeWaits : (s.takeWaits).engine = s.engine := by
  simp only [takeWaits]
  split <;> simp
@[simp] theorem requests_takeWaits : (s.takeWaits).requests = s.requests := by
  simp only [takeWaits]
  split <;> simp
@[simp] theorem worker_takeWaits : (s.takeWaits).worker = s.worker := by
  simp only [takeWaits]
  split <;> simp
@[simp] theorem roster_takeWaits : (s.takeWaits).roster = s.roster := by
  simp only [takeWaits]
  split <;> simp
@[simp] theorem turnPointer_takeWaits : (s.takeWaits).turnPointer = s.turnPointer := by
  simp only [takeWaits]
  split <;> simp
@[simp] theorem uplink_takeWaits : (s.takeWaits).uplink = s.uplink := by
  simp only [takeWaits]
  split <;> simp
@[simp] theorem credited_takeWaits : (s.takeWaits).credited = s.credited := by
  simp only [takeWaits]
  split <;> simp
@[simp] theorem attnEn_takeWaits : (s.takeWaits).attnEn = s.attnEn := by
  simp only [takeWaits]
  split <;> simp
@[simp] theorem settings_takeWaits : (s.takeWaits).settings = s.settings := by
  simp only [takeWaits]
  split <;> simp
@[simp] theorem port_takeWaits : (s.takeWaits).port = s.port := by
  simp only [takeWaits]
  split <;> simp
@[simp] theorem cmd_takeWaits : (s.takeWaits).cmd = s.cmd := by
  simp only [takeWaits]
  split <;> simp
@[simp] theorem pending_takeWaits : (s.takeWaits).pending = s.pending := by
  simp only [takeWaits]
  split <;> simp

@[simp] theorem fg_takeReaction (x : FrameReaction) : (s.takeReaction x).fg = s.fg := by
  cases x <;> simp [takeReaction]
@[simp] theorem requests_takeReaction (x : FrameReaction) : (s.takeReaction x).requests = s.requests := by
  cases x <;> simp [takeReaction]
@[simp] theorem turnPointer_takeReaction (x : FrameReaction) : (s.takeReaction x).turnPointer = s.turnPointer := by
  cases x <;> simp [takeReaction]
@[simp] theorem uplink_takeReaction (x : FrameReaction) : (s.takeReaction x).uplink = s.uplink := by
  cases x <;> simp [takeReaction]
@[simp] theorem credited_takeReaction (x : FrameReaction) : (s.takeReaction x).credited = s.credited := by
  cases x <;> simp [takeReaction]
@[simp] theorem attnEn_takeReaction (x : FrameReaction) : (s.takeReaction x).attnEn = s.attnEn := by
  cases x <;> simp [takeReaction]
@[simp] theorem settings_takeReaction (x : FrameReaction) : (s.takeReaction x).settings = s.settings := by
  cases x <;> simp [takeReaction]
@[simp] theorem port_takeReaction (x : FrameReaction) : (s.takeReaction x).port = s.port := by
  cases x <;> simp [takeReaction]
@[simp] theorem cmd_takeReaction (x : FrameReaction) : (s.takeReaction x).cmd = s.cmd := by
  cases x <;> simp [takeReaction]
@[simp] theorem pending_takeReaction (x : FrameReaction) : (s.takeReaction x).pending = s.pending := by
  cases x <;> simp [takeReaction]

@[simp] theorem fg_applyLimit (t : Trib) (r : MissedLimit) : (s.applyLimit t r).fg = s.fg := by
  unfold applyLimit
  repeat' split
  all_goals simp
@[simp] theorem slots_applyLimit (t : Trib) (r : MissedLimit) : (s.applyLimit t r).slots = s.slots := by
  unfold applyLimit
  repeat' split
  all_goals simp
@[simp] theorem leases_applyLimit (t : Trib) (r : MissedLimit) : (s.applyLimit t r).leases = s.leases := by
  unfold applyLimit
  repeat' split
  all_goals simp
@[simp] theorem requests_applyLimit (t : Trib) (r : MissedLimit) : (s.applyLimit t r).requests = s.requests := by
  unfold applyLimit
  repeat' split
  all_goals simp
@[simp] theorem deferred_applyLimit (t : Trib) (r : MissedLimit) : (s.applyLimit t r).deferred = s.deferred := by
  unfold applyLimit
  repeat' split
  all_goals simp
@[simp] theorem worker_applyLimit (t : Trib) (r : MissedLimit) : (s.applyLimit t r).worker = s.worker := by
  unfold applyLimit
  repeat' split
  all_goals simp
@[simp] theorem turnPointer_applyLimit (t : Trib) (r : MissedLimit) : (s.applyLimit t r).turnPointer = s.turnPointer := by
  unfold applyLimit
  repeat' split
  all_goals simp
@[simp] theorem uplink_applyLimit (t : Trib) (r : MissedLimit) : (s.applyLimit t r).uplink = s.uplink := by
  unfold applyLimit
  repeat' split
  all_goals simp
@[simp] theorem notices_applyLimit (t : Trib) (r : MissedLimit) : (s.applyLimit t r).notices = s.notices := by
  unfold applyLimit
  repeat' split
  all_goals simp
@[simp] theorem credited_applyLimit (t : Trib) (r : MissedLimit) : (s.applyLimit t r).credited = s.credited := by
  unfold applyLimit
  repeat' split
  all_goals simp
@[simp] theorem attnEn_applyLimit (t : Trib) (r : MissedLimit) : (s.applyLimit t r).attnEn = s.attnEn := by
  unfold applyLimit
  repeat' split
  all_goals simp
@[simp] theorem settings_applyLimit (t : Trib) (r : MissedLimit) : (s.applyLimit t r).settings = s.settings := by
  unfold applyLimit
  repeat' split
  all_goals simp
@[simp] theorem port_applyLimit (t : Trib) (r : MissedLimit) : (s.applyLimit t r).port = s.port := by
  unfold applyLimit
  repeat' split
  all_goals simp
@[simp] theorem cmd_applyLimit (t : Trib) (r : MissedLimit) : (s.applyLimit t r).cmd = s.cmd := by
  unfold applyLimit
  repeat' split
  all_goals simp
@[simp] theorem due_applyLimit (t : Trib) (r : MissedLimit) : (s.applyLimit t r).due = s.due := by
  unfold applyLimit
  repeat' split
  all_goals simp
@[simp] theorem pending_applyLimit (t : Trib) (r : MissedLimit) : (s.applyLimit t r).pending = s.pending := by
  unfold applyLimit
  repeat' split
  all_goals simp

@[simp] theorem fg_takeMissed : (s.takeMissed).fg = s.fg := by
  unfold takeMissed
  repeat' split
  all_goals simp
@[simp] theorem slots_takeMissed : (s.takeMissed).slots = s.slots := by
  unfold takeMissed
  repeat' split
  all_goals simp
@[simp] theorem leases_takeMissed : (s.takeMissed).leases = s.leases := by
  unfold takeMissed
  repeat' split
  all_goals simp
@[simp] theorem requests_takeMissed : (s.takeMissed).requests = s.requests := by
  unfold takeMissed
  repeat' split
  all_goals simp
@[simp] theorem deferred_takeMissed : (s.takeMissed).deferred = s.deferred := by
  unfold takeMissed
  repeat' split
  all_goals simp
@[simp] theorem worker_takeMissed : (s.takeMissed).worker = s.worker := by
  unfold takeMissed
  repeat' split
  all_goals simp
@[simp] theorem turnPointer_takeMissed : (s.takeMissed).turnPointer = s.turnPointer := by
  unfold takeMissed
  repeat' split
  all_goals simp
@[simp] theorem uplink_takeMissed : (s.takeMissed).uplink = s.uplink := by
  unfold takeMissed
  repeat' split
  all_goals simp
@[simp] theorem notices_takeMissed : (s.takeMissed).notices = s.notices := by
  unfold takeMissed
  repeat' split
  all_goals simp
@[simp] theorem credited_takeMissed : (s.takeMissed).credited = s.credited := by
  unfold takeMissed
  repeat' split
  all_goals simp
@[simp] theorem attnEn_takeMissed : (s.takeMissed).attnEn = s.attnEn := by
  unfold takeMissed
  repeat' split
  all_goals simp
@[simp] theorem settings_takeMissed : (s.takeMissed).settings = s.settings := by
  unfold takeMissed
  repeat' split
  all_goals simp
@[simp] theorem port_takeMissed : (s.takeMissed).port = s.port := by
  unfold takeMissed
  repeat' split
  all_goals simp
@[simp] theorem cmd_takeMissed : (s.takeMissed).cmd = s.cmd := by
  unfold takeMissed
  repeat' split
  all_goals simp
@[simp] theorem pending_takeMissed : (s.takeMissed).pending = s.pending := by
  unfold takeMissed
  repeat' split
  all_goals simp

@[simp] theorem fg_reclaimAll (rs : List (LeaseIdx × EndReason)) : (s.reclaimAll rs).fg = s.fg := by
  unfold reclaimAll
  exact foldl_frame (fun t => t.fg) _ (fun _ _ => by simp) _ _
@[simp] theorem requests_reclaimAll (rs : List (LeaseIdx × EndReason)) : (s.reclaimAll rs).requests = s.requests := by
  unfold reclaimAll
  exact foldl_frame (fun t => t.requests) _ (fun _ _ => by simp) _ _
@[simp] theorem deferred_reclaimAll (rs : List (LeaseIdx × EndReason)) : (s.reclaimAll rs).deferred = s.deferred := by
  unfold reclaimAll
  exact foldl_frame (fun t => t.deferred) _ (fun _ _ => by simp) _ _
@[simp] theorem turnPointer_reclaimAll (rs : List (LeaseIdx × EndReason)) : (s.reclaimAll rs).turnPointer = s.turnPointer := by
  unfold reclaimAll
  exact foldl_frame (fun t => t.turnPointer) _ (fun _ _ => by simp) _ _
@[simp] theorem uplink_reclaimAll (rs : List (LeaseIdx × EndReason)) : (s.reclaimAll rs).uplink = s.uplink := by
  unfold reclaimAll
  exact foldl_frame (fun t => t.uplink) _ (fun _ _ => by simp) _ _
@[simp] theorem credited_reclaimAll (rs : List (LeaseIdx × EndReason)) : (s.reclaimAll rs).credited = s.credited := by
  unfold reclaimAll
  exact foldl_frame (fun t => t.credited) _ (fun _ _ => by simp) _ _
@[simp] theorem attnEn_reclaimAll (rs : List (LeaseIdx × EndReason)) : (s.reclaimAll rs).attnEn = s.attnEn := by
  unfold reclaimAll
  exact foldl_frame (fun t => t.attnEn) _ (fun _ _ => by simp) _ _
@[simp] theorem settings_reclaimAll (rs : List (LeaseIdx × EndReason)) : (s.reclaimAll rs).settings = s.settings := by
  unfold reclaimAll
  exact foldl_frame (fun t => t.settings) _ (fun _ _ => by simp) _ _
@[simp] theorem port_reclaimAll (rs : List (LeaseIdx × EndReason)) : (s.reclaimAll rs).port = s.port := by
  unfold reclaimAll
  exact foldl_frame (fun t => t.port) _ (fun _ _ => by simp) _ _
@[simp] theorem cmd_reclaimAll (rs : List (LeaseIdx × EndReason)) : (s.reclaimAll rs).cmd = s.cmd := by
  unfold reclaimAll
  exact foldl_frame (fun t => t.cmd) _ (fun _ _ => by simp) _ _
@[simp] theorem due_reclaimAll (rs : List (LeaseIdx × EndReason)) : (s.reclaimAll rs).due = s.due := by
  unfold reclaimAll
  exact foldl_frame (fun t => t.due) _ (fun _ _ => by simp) _ _
@[simp] theorem pending_reclaimAll (rs : List (LeaseIdx × EndReason)) : (s.reclaimAll rs).pending = s.pending := by
  unfold reclaimAll
  exact foldl_frame (fun t => t.pending) _ (fun _ _ => by simp) _ _

@[simp] theorem fg_takeReclaims : (s.takeReclaims).fg = s.fg := by
  simp [takeReclaims]
@[simp] theorem requests_takeReclaims : (s.takeReclaims).requests = s.requests := by
  simp [takeReclaims]
@[simp] theorem deferred_takeReclaims : (s.takeReclaims).deferred = s.deferred := by
  simp [takeReclaims]
@[simp] theorem turnPointer_takeReclaims : (s.takeReclaims).turnPointer = s.turnPointer := by
  simp [takeReclaims]
@[simp] theorem uplink_takeReclaims : (s.takeReclaims).uplink = s.uplink := by
  simp [takeReclaims]
@[simp] theorem credited_takeReclaims : (s.takeReclaims).credited = s.credited := by
  simp [takeReclaims]
@[simp] theorem attnEn_takeReclaims : (s.takeReclaims).attnEn = s.attnEn := by
  simp [takeReclaims]
@[simp] theorem settings_takeReclaims : (s.takeReclaims).settings = s.settings := by
  simp [takeReclaims]
@[simp] theorem port_takeReclaims : (s.takeReclaims).port = s.port := by
  simp [takeReclaims]
@[simp] theorem cmd_takeReclaims : (s.takeReclaims).cmd = s.cmd := by
  simp [takeReclaims]
@[simp] theorem pending_takeReclaims : (s.takeReclaims).pending = s.pending := by
  simp [takeReclaims]

@[simp] theorem fg_finishSlotMap : (s.finishSlotMap).fg = s.fg := by
  unfold finishSlotMap
  split <;> simp
@[simp] theorem requests_finishSlotMap : (s.finishSlotMap).requests = s.requests := by
  unfold finishSlotMap
  split <;> simp
@[simp] theorem deferred_finishSlotMap : (s.finishSlotMap).deferred = s.deferred := by
  unfold finishSlotMap
  split <;> simp
@[simp] theorem turnPointer_finishSlotMap : (s.finishSlotMap).turnPointer = s.turnPointer := by
  unfold finishSlotMap
  split <;> simp
@[simp] theorem uplink_finishSlotMap : (s.finishSlotMap).uplink = s.uplink := by
  unfold finishSlotMap
  split <;> simp
@[simp] theorem credited_finishSlotMap : (s.finishSlotMap).credited = s.credited := by
  unfold finishSlotMap
  split <;> simp
@[simp] theorem attnEn_finishSlotMap : (s.finishSlotMap).attnEn = s.attnEn := by
  unfold finishSlotMap
  split <;> simp
@[simp] theorem settings_finishSlotMap : (s.finishSlotMap).settings = s.settings := by
  unfold finishSlotMap
  split <;> simp
@[simp] theorem port_finishSlotMap : (s.finishSlotMap).port = s.port := by
  unfold finishSlotMap
  split <;> simp
@[simp] theorem cmd_finishSlotMap : (s.finishSlotMap).cmd = s.cmd := by
  unfold finishSlotMap
  split <;> simp
@[simp] theorem pending_finishSlotMap : (s.finishSlotMap).pending = s.pending := by
  unfold finishSlotMap
  split <;> simp

@[simp] theorem fg_finishEvents : (s.finishEvents).fg = s.fg := by
  simp [finishEvents]
@[simp] theorem requests_finishEvents : (s.finishEvents).requests = s.requests := by
  simp [finishEvents]
@[simp] theorem deferred_finishEvents : (s.finishEvents).deferred = s.deferred := by
  simp [finishEvents]
@[simp] theorem turnPointer_finishEvents : (s.finishEvents).turnPointer = s.turnPointer := by
  simp [finishEvents]
@[simp] theorem uplink_finishEvents : (s.finishEvents).uplink = s.uplink := by
  simp [finishEvents]
@[simp] theorem credited_finishEvents : (s.finishEvents).credited = s.credited := by
  simp [finishEvents]
@[simp] theorem attnEn_finishEvents : (s.finishEvents).attnEn = s.attnEn := by
  simp [finishEvents]
@[simp] theorem settings_finishEvents : (s.finishEvents).settings = s.settings := by
  simp [finishEvents]
@[simp] theorem port_finishEvents : (s.finishEvents).port = s.port := by
  simp [finishEvents]
@[simp] theorem cmd_finishEvents : (s.finishEvents).cmd = s.cmd := by
  simp [finishEvents]
@[simp] theorem pending_finishEvents : (s.finishEvents).pending = s.pending := by
  simp [finishEvents]

@[simp] theorem fg_finishTermEnds : (s.finishTermEnds).fg = s.fg := by
  unfold finishTermEnds
  split <;> simp
@[simp] theorem requests_finishTermEnds : (s.finishTermEnds).requests = s.requests := by
  unfold finishTermEnds
  split <;> simp
@[simp] theorem deferred_finishTermEnds : (s.finishTermEnds).deferred = s.deferred := by
  unfold finishTermEnds
  split <;> simp
@[simp] theorem turnPointer_finishTermEnds : (s.finishTermEnds).turnPointer = s.turnPointer := by
  unfold finishTermEnds
  split <;> simp
@[simp] theorem uplink_finishTermEnds : (s.finishTermEnds).uplink = s.uplink := by
  unfold finishTermEnds
  split <;> simp
@[simp] theorem credited_finishTermEnds : (s.finishTermEnds).credited = s.credited := by
  unfold finishTermEnds
  split <;> simp
@[simp] theorem attnEn_finishTermEnds : (s.finishTermEnds).attnEn = s.attnEn := by
  unfold finishTermEnds
  split <;> simp
@[simp] theorem settings_finishTermEnds : (s.finishTermEnds).settings = s.settings := by
  unfold finishTermEnds
  split <;> simp
@[simp] theorem port_finishTermEnds : (s.finishTermEnds).port = s.port := by
  unfold finishTermEnds
  split <;> simp
@[simp] theorem cmd_finishTermEnds : (s.finishTermEnds).cmd = s.cmd := by
  unfold finishTermEnds
  split <;> simp
@[simp] theorem pending_finishTermEnds : (s.finishTermEnds).pending = s.pending := by
  unfold finishTermEnds
  split <;> simp

@[simp] theorem fg_hear : (s.hear).fg = s.fg := by
  simp [hear]
@[simp] theorem requests_hear : (s.hear).requests = s.requests := by
  simp [hear]
@[simp] theorem deferred_hear : (s.hear).deferred = s.deferred := by
  simp [hear]
@[simp] theorem turnPointer_hear : (s.hear).turnPointer = s.turnPointer := by
  simp [hear]
@[simp] theorem uplink_hear : (s.hear).uplink = s.uplink := by
  simp [hear]
@[simp] theorem credited_hear : (s.hear).credited = s.credited := by
  simp [hear]
@[simp] theorem attnEn_hear : (s.hear).attnEn = s.attnEn := by
  simp [hear]
@[simp] theorem settings_hear : (s.hear).settings = s.settings := by
  simp [hear]
@[simp] theorem port_hear : (s.hear).port = s.port := by
  simp [hear]
@[simp] theorem cmd_hear : (s.hear).cmd = s.cmd := by
  simp [hear]
@[simp] theorem pending_hear : (s.hear).pending = s.pending := by
  simp [hear]

@[simp] theorem fg_settle : (s.settle).fg = s.fg := by
  simp [settle]
@[simp] theorem requests_settle : (s.settle).requests = s.requests := by
  simp [settle]
@[simp] theorem turnPointer_settle : (s.settle).turnPointer = s.turnPointer := by
  simp [settle]
@[simp] theorem uplink_settle : (s.settle).uplink = s.uplink := by
  simp [settle]
@[simp] theorem credited_settle : (s.settle).credited = s.credited := by
  simp [settle]
@[simp] theorem attnEn_settle : (s.settle).attnEn = s.attnEn := by
  simp [settle]
@[simp] theorem settings_settle : (s.settle).settings = s.settings := by
  simp [settle]
@[simp] theorem port_settle : (s.settle).port = s.port := by
  simp [settle]
@[simp] theorem cmd_settle : (s.settle).cmd = s.cmd := by
  simp [settle]
@[simp] theorem pending_settle : (s.settle).pending = s.pending := by
  simp [settle]

end Sys2Proof.Machine.State
end

