-- ==== Sys2Proof/Laws/Due.lean ====
section
/-!
SUPPORT. What taking a report leaves outstanding: each clears its own part of `due`, and settling clears all of it (03, R54).
-/
namespace Sys2Proof.Machine.State

variable (s : State)

@[simp] theorem due_takeVacate : s.takeVacate.due = { s.due with vacate := false } := by
  unfold takeVacate
  split
  · simp
  · rename_i h
    simp only [Bool.not_eq_true] at h
    rw [← h]

@[simp] theorem due_takeGuardEnd : s.takeGuardEnd.due = { s.due with vacate := false, guardEnd := false } := by
  unfold takeGuardEnd
  simp only
  split
  · simp
  · rename_i h
    simp only [Bool.not_eq_true, due_takeVacate] at h
    rw [due_takeVacate, ← h]

@[simp] theorem due_takeGoLive :
    s.takeGoLive.due = { s.due with vacate := false, guardEnd := false, goLive := false } := by
  unfold takeGoLive
  simp only
  split
  · simp
  · rename_i h
    simp only [Bool.not_eq_true, due_takeGuardEnd] at h
    rw [due_takeGuardEnd, ← h]

@[simp] theorem due_takeUntils : s.takeUntils.due = { s.due with untils := false } := by
  unfold takeUntils
  split
  · simp
  · rename_i h
    simp only [Bool.not_eq_true] at h
    rw [← h]

@[simp] theorem due_takeMoveEnds : s.takeMoveEnds.due = { s.due with moveEnds := false } := by
  unfold takeMoveEnds
  split
  · simp
  · rename_i h
    simp only [Bool.not_eq_true] at h
    rw [← h]

@[simp] theorem due_takeWaits : s.takeWaits.due = { s.due with waits := false } := by
  unfold takeWaits
  split
  · simp
  · rename_i h
    simp only [Bool.not_eq_true] at h
    rw [← h]

@[simp] theorem due_takeMissed : s.takeMissed.due = { s.due with missed := none } := by
  unfold takeMissed
  split
  · rename_i h
    rw [← h]
  · simp

@[simp] theorem due_takeReclaims : s.takeReclaims.due = { s.due with reclaims := [] } := by
  simp [takeReclaims]

@[simp] theorem due_finishSlotMap :
    s.finishSlotMap.due = if s.due.vacate then s.due else { s.due with guardEnd := false, goLive := false } := by
  unfold finishSlotMap
  split
  · rfl
  · rename_i h
    simp only [Bool.not_eq_true] at h
    rw [due_takeGoLive, ← h]

@[simp] theorem due_finishEvents : s.finishEvents.due = { s.finishSlotMap.due with missed := none, reclaims := [] } := by
  simp [finishEvents]

variable {s} in
/-- With no event in progress nothing is gone through. -/
theorem finishEvents_of_none (hm : s.due.missed = none) (hr : s.due.reclaims = [])
    (hv : s.due.vacate = true ∨ (s.due.guardEnd = false ∧ s.due.goLive = false)) : s.finishEvents = s := by
  have h1 : s.finishSlotMap = s := by
    unfold finishSlotMap
    split
    · rfl
    · rename_i h
      rcases hv with hv | ⟨hg, hl⟩
      · exact absurd hv h
      · have h2 : s.takeVacate = s := by simp [takeVacate, h]
        have h3 : s.takeGuardEnd = s := by simp [takeGuardEnd, h2, hg]
        simp [takeGoLive, h3, hl]
  have h2 : s.takeMissed = s := by simp [takeMissed, hm]
  have h3 : s.setDue { s.due with reclaims := [] } = s := by rw [← hr]; rfl
  simp [finishEvents, h1, h2, takeReclaims, hr, reclaimAll, h3]

@[simp] theorem due_finishTermEnds : s.finishTermEnds.due = if s.due.vacate && s.due.moveEnds then s.due
    else { s.due with vacate := false, guardEnd := false, goLive := false, moveEnds := false } := by
  unfold finishTermEnds
  split <;> simp

@[simp] theorem due_hear : s.hear.due =
    { s.finishTermEnds.due with missed := none, reclaims := [], untils := false } := by
  simp [hear]

/-- What comes before an item leaves nothing that comes before an item (03, R54). -/
theorem heard_hear : s.hear.heard := by
  simp only [heard, due_hear, due_finishTermEnds]
  cases h : s.due.vacate <;> cases hm : s.due.moveEnds <;> simp [h, hm]

variable {s} in
/-- With nothing due of the slot map unit's application and the move removals, or both still to come, neither is made. -/
theorem finishTermEnds_of_heard (h : s.heard) : s.finishTermEnds = s := by
  unfold finishTermEnds
  obtain ⟨_, _, _, hm, h⟩ := h
  cases hv : s.due.vacate with
  | true => simp [hm, hv]
  | false =>
    obtain ⟨hg, hl⟩ := h.resolve_left (by simp [hv])
    have h2 : s.takeVacate = s := by simp [takeVacate, hv]
    have h3 : s.takeGuardEnd = s := by simp [takeGuardEnd, h2, hg]
    have h4 : s.takeGoLive = s := by simp [takeGoLive, h3, hl]
    simp [hv, h4, takeMoveEnds, hm]

variable {s} in
/-- With no limit reached and no reclaim decided, neither is taken. -/
theorem takeReclaims_of_none (hm : s.due.missed = none) (hr : s.due.reclaims = []) : s.takeMissed.takeReclaims = s := by
  have h2 : s.takeMissed = s := by simp [takeMissed, hm]
  have h3 : s.setDue { s.due with reclaims := [] } = s := by rw [← hr]; rfl
  simp [h2, takeReclaims, hr, reclaimAll, h3]

variable {s} in
/-- With nothing outstanding that comes before an item, nothing is taken before it (03, R54). -/
theorem hear_of_heard (h : s.heard) : s.hear = s := by
  simp [hear, finishTermEnds_of_heard h, takeReclaims_of_none h.2.1 h.2.2.1, takeUntils, h.1]

/-- Hearing twice is hearing once. -/
@[simp] theorem hear_hear : s.hear.hear = s.hear := hear_of_heard (heard_hear s)

/-- Settling leaves nothing outstanding (03, R54). -/
@[simp] theorem due_settle : s.settle.due = Due.nothing := by
  simp [settle, Due.nothing]

/-- Settling twice is settling once. -/
@[simp] theorem settle_settle : s.settle.settle = s.settle := settle_of_quiet _ (due_settle s)

end Sys2Proof.Machine.State
end

