-- ==== Sys2Proof/Laws/FrameStart.lean ====
section
/-!
SUPPORT. The parts of a frame start: the words driven, its steps, and what FRAME_START makes of a state, in terms of the state in
which the notice unit sends.
-/
namespace Sys2Proof.Machine

/-! ### The words driven

Where a word's width is written as a number, its bits are taken apart by `rw [BitVec.getLsbD_append]`, not by `simp`. -/

/-- The payload and the check of a notice as it is sent (08, R153, R158). -/
theorem Notice.word_parts (n : Notice) :
    n.word.extractLsb' 16 48 = n.payload ∧ n.word.extractLsb' 0 16 = crc16 (bitsOf n.payload) := by
  constructor <;> apply BitVec.eq_of_getLsbD_eq <;> intro i hi <;>
    rw [BitVec.getLsbD_extractLsb', Notice.word, BitVec.getLsbD_append] <;> simp [hi]

/-- The first 48 bits of a notice are those of its payload. -/
theorem Notice.word_bits (n : Notice) : (List.range 48).map n.word.getMsbD = bitsOf n.payload := by
  apply List.map_congr_left
  intro k hk
  rw [Notice.word, BitVec.getMsbD_append]
  simp [List.mem_range.mp hk]

/-- The check of a marker is that of its first 24 bits (08, R159). -/
theorem markerWord_check (now : Frame) (turn : Turn) (isOpen resumed follows : Bool) :
    (markerWord now turn isOpen resumed follows).extractLsb' 0 8 =
      crc8 ((List.range 24).map (markerWord now turn isOpen resumed follows).getMsbD) := by
  have h : ∀ (b : BitVec 24) (c : BitVec 8), (List.range 24).map (b ++ c : BitVec 32).getMsbD = bitsOf b := by
    intro b c
    apply List.map_congr_left
    intro k hk
    rw [BitVec.getMsbD_append]
    simp [List.mem_range.mp hk]
  simp only [markerWord, h]
  apply BitVec.eq_of_getLsbD_eq
  intro i hi
  rw [BitVec.getLsbD_extractLsb', BitVec.getLsbD_append]
  simp [hi]

/-! ### The items of a frame start -/

/-- An engine item of a frame start is the item's own row (03, R50). -/
theorem itemRow_eq_exec {c : Instr} (h : isItemRow c = true) : itemRow c = exec c := by
  cases c <;> first | rfl | simp [isItemRow] at h

/-- The row of any work is that of an engine item (03, R50). -/
theorem isItemRow_rowOfWork (s : State) (w : Work) : isItemRow (s.rowOfWork w) = true := by
  cases w with
  | bus r => cases h : r.message <;> simp [State.rowOfWork, rowOfMessage, h, isItemRow]
  | command =>
    simp only [State.rowOfWork, rowOfCode]
    split
    · rename_i c _; cases c <;> rfl
    · rfl
  | retirement t => rfl
  | compaction => rfl
  | reconsider => rfl

/-- The row of any work has a next state (03, R50). -/
theorem exec_rowOfWork (s u : State) (w : Work) : ∃ t, exec (s.rowOfWork w) u = .next t := by
  cases s.rowOfWork w <;> exact ⟨_, rfl⟩

namespace State

/-- One item taken is the row of the arbiter's work, after what comes before an item (03, R51, R54). -/
theorem takeItem_of_work {s : State} {w : Work} {u : State} (hw : s.hear.nextWork = some w)
    (hu : exec (s.hear.rowOfWork w) s.hear = .next u) : s.takeItem = u := by
  simp only [takeItem, hw, itemRow_eq_exec (isItemRow_rowOfWork _ _), hu]

/-- With no work ready, taking an item takes what comes before it alone. -/
theorem takeItem_of_none {s : State} (hw : s.hear.nextWork = none) : s.takeItem = s.hear := by
  simp only [takeItem, hw]

/-- The frame opened is the statements' frame begun (06, R126). -/
theorem begun_eq (s : State) : s.begun = s.openFrame := rfl

/-- The model's test for a frame start is the statements' (06, R126). -/
theorem frameStartFollows_iff (s : State) : s.frameStartFollows = true ↔ s.frameFollows := by
  unfold frameStartFollows
  cases hs : s.fg.state <;> cases hp : s.fg.phase <;> simp [frameFollows, hs, hp]

/-- FRAME_START where a frame start follows (06, R126). -/
theorem exec_frameStart {s : State} (order : FrameOrder) (hq : s.due = Due.nothing) (hf : s.frameFollows) :
    exec (.frameStart order) s = .next (s.frameStart order) := by
  simp only [exec, execFrameStart, settle_of_quiet s hq, (frameStartFollows_iff s).mpr hf, if_true]

/-- Where no frame start follows, FRAME_START changes nothing (notes/assumptions/1.md). -/
theorem exec_frameStart_none {s : State} (order : FrameOrder) (hq : s.due = Due.nothing)
    (hf : ¬ s.frameFollows) : exec (.frameStart order) s = .next s := by
  have h : s.frameStartFollows = false := by
    rw [← Bool.not_eq_true]; exact fun h => hf ((frameStartFollows_iff s).mp h)
  simp [exec, execFrameStart, settle_of_quiet s hq, h]

/-- The steps taken in a frame start, as the statements say them: they are determined (03, R51). -/
theorem stepsTaken_iff (l : List FrameStep) (s t : State) : StepsTaken l s t ↔ t = takeSteps l s := by
  induction l generalizing s with
  | nil => exact Iff.rfl
  | cons x rest ih =>
    cases x with
    | react r => exact ih _
    | item =>
      simp only [StepsTaken, ih]
      cases hw : s.hear.nextWork with
      | none =>
        rw [show takeSteps (.item :: rest) s = takeSteps rest s.takeItem from rfl, takeItem_of_none hw]
        simp
      | some w =>
        obtain ⟨u, hu⟩ := exec_rowOfWork s.hear s.hear w
        rw [show takeSteps (.item :: rest) s = takeSteps rest s.takeItem from rfl, takeItem_of_work hw hu]
        simp [hu]

/-- Reactions alone are the fold of the reactions. -/
theorem takeSteps_react (first : List FrameReaction) (s : State) :
    takeSteps (first.map .react) s = first.foldl takeReaction s := by
  simp [takeSteps, List.foldl_map, takeStep]

/-! ### The sending: what it leaves unchanged -/

/-- A GRANT sent writes only the lease table and the slot map (01, R16; 02, R36). -/
theorem grantSent_frame (s : State) (i : LeaseIdx) (e : Frame) :
    (s.grantSent i e).fg = s.fg ∧ (s.grantSent i e).requests = s.requests ∧ (s.grantSent i e).deferred =
    s.deferred ∧ (s.grantSent i e).turnPointer = s.turnPointer ∧ (s.grantSent i e).uplink = s.uplink ∧
    (s.grantSent i e).credited = s.credited ∧ (s.grantSent i e).attnEn = s.attnEn ∧ (s.grantSent i e).settings =
    s.settings ∧ (s.grantSent i e).port = s.port ∧ (s.grantSent i e).cmd = s.cmd ∧ (s.grantSent i e).due = s.due
    ∧ (s.grantSent i e).pending = s.pending := by
  unfold grantSent
  split <;> simp

/-- An end notice sent writes only the lease table and the slot map (01, R19; 02, R36). -/
theorem endSent_frame (s : State) (i : LeaseIdx) :
    (s.endSent i).fg = s.fg ∧ (s.endSent i).requests = s.requests ∧ (s.endSent i).deferred = s.deferred ∧
    (s.endSent i).turnPointer = s.turnPointer ∧ (s.endSent i).uplink = s.uplink ∧ (s.endSent i).credited =
    s.credited ∧ (s.endSent i).attnEn = s.attnEn ∧ (s.endSent i).settings = s.settings ∧ (s.endSent i).port =
    s.port ∧ (s.endSent i).cmd = s.cmd ∧ (s.endSent i).due = s.due ∧ (s.endSent i).pending = s.pending := by
  unfold endSent
  split <;> simp

/-- A MOVE sent writes the lease table and the slot map, and what a retirement writes (05, R103). -/
theorem moveSent_frame (s : State) (i : LeaseIdx) :
    (s.moveSent i).fg = s.fg ∧ (s.moveSent i).requests = s.requests ∧ (s.moveSent i).deferred = s.deferred ∧
    (s.moveSent i).turnPointer = s.turnPointer ∧ (s.moveSent i).uplink = s.uplink ∧ (s.moveSent i).credited =
    s.credited ∧ (s.moveSent i).attnEn = s.attnEn ∧ (s.moveSent i).settings = s.settings ∧ (s.moveSent i).port =
    s.port ∧ (s.moveSent i).cmd = s.cmd ∧ (s.moveSent i).due = s.due ∧ (s.moveSent i).pending = s.pending := by
  simp only [moveSent]
  repeat' split
  all_goals simp

/-- The report of any sending (08, R167). -/
theorem reportSending_frame (s : State) (q : QueuedNotice) :
    (s.reportSending q).fg = s.fg ∧ (s.reportSending q).requests = s.requests ∧ (s.reportSending q).deferred =
    s.deferred ∧ (s.reportSending q).turnPointer = s.turnPointer ∧ (s.reportSending q).uplink = s.uplink ∧
    (s.reportSending q).credited = s.credited ∧ (s.reportSending q).attnEn = s.attnEn ∧ (s.reportSending
    q).settings = s.settings ∧ (s.reportSending q).port = s.port ∧ (s.reportSending q).cmd = s.cmd ∧
    (s.reportSending q).due = s.due ∧ (s.reportSending q).pending = s.pending := by
  unfold reportSending
  repeat' split
  all_goals first | exact grantSent_frame _ _ _ | exact endSent_frame _ _ | exact moveSent_frame _ _ | simp

/-- The report to the roster unit writes the roster and the notice queue (08, R167). -/
theorem reportAnswer_frame (s : State) (q : QueuedNotice) :
    (s.reportAnswer q).fg = s.fg ∧ (s.reportAnswer q).requests = s.requests ∧ (s.reportAnswer q).deferred =
    s.deferred ∧ (s.reportAnswer q).turnPointer = s.turnPointer ∧ (s.reportAnswer q).uplink = s.uplink ∧
    (s.reportAnswer q).credited = s.credited ∧ (s.reportAnswer q).attnEn = s.attnEn ∧ (s.reportAnswer
    q).settings = s.settings ∧ (s.reportAnswer q).port = s.port ∧ (s.reportAnswer q).cmd = s.cmd ∧
    (s.reportAnswer q).due = s.due ∧ (s.reportAnswer q).pending = s.pending := by
  simp only [reportAnswer, recordHeld]
  repeat' split
  all_goals simp

/-- The sending at a frame start (08, R166, R167). -/
theorem sendNotice_frame (s : State) :
    (s.sendNotice).fg = s.fg ∧ (s.sendNotice).requests = s.requests ∧ (s.sendNotice).deferred = s.deferred ∧
    (s.sendNotice).turnPointer = s.turnPointer ∧ (s.sendNotice).uplink = s.uplink ∧ (s.sendNotice).credited =
    s.credited ∧ (s.sendNotice).attnEn = s.attnEn ∧ (s.sendNotice).settings = s.settings ∧ (s.sendNotice).port =
    s.port ∧ (s.sendNotice).cmd = s.cmd ∧ (s.sendNotice).due = s.due ∧ (s.sendNotice).pending = s.pending := by
  unfold sendNotice
  split
  · simp
  · rename_i q rest _
    have h := reportAnswer_frame ((s.setNotices rest).reportSending q) q
    have g := reportSending_frame (s.setNotices rest) q
    simp_all

/-- The frame begun, and what the reactions leave unchanged (06, R117, R126). -/
theorem reactions_frame (first : List FrameReaction) (s : State) :
    (takeSteps (first.map .react) s.begun).fg = { s.fg with counter := s.newFrame, phase := .inFrame } ∧
      (takeSteps (first.map .react) s.begun).requests = s.requests ∧
      (takeSteps (first.map .react) s.begun).turnPointer = s.turnPointer ∧
      (takeSteps (first.map .react) s.begun).uplink = s.uplink ∧
      (takeSteps (first.map .react) s.begun).credited = s.credited ∧
      (takeSteps (first.map .react) s.begun).attnEn = s.attnEn ∧
      (takeSteps (first.map .react) s.begun).settings = s.settings ∧
      (takeSteps (first.map .react) s.begun).port = s.port ∧ (takeSteps (first.map .react) s.begun).cmd = s.cmd ∧
      (takeSteps (first.map .react) s.begun).pending = s.pending := by
  rw [takeSteps_react]
  refine ⟨?_, ?_, ?_, ?_, ?_, ?_, ?_, ?_, ?_, ?_⟩
  · rw [foldl_frame State.fg _ fg_takeReaction]; rfl
  · rw [foldl_frame State.requests _ requests_takeReaction]; rfl
  · rw [foldl_frame State.turnPointer _ turnPointer_takeReaction]; rfl
  · rw [foldl_frame State.uplink _ uplink_takeReaction]; rfl
  · rw [foldl_frame State.credited _ credited_takeReaction]; rfl
  · rw [foldl_frame State.attnEn _ attnEn_takeReaction]; rfl
  · rw [foldl_frame State.settings _ settings_takeReaction]; rfl
  · rw [foldl_frame State.port _ port_takeReaction]; rfl
  · rw [foldl_frame State.cmd _ cmd_takeReaction]; rfl
  · rw [foldl_frame State.pending _ pending_takeReaction]; rfl

/-- The sending and the marking of copies leave these as they were. -/
theorem sent_frame (s : State) :
    s.sendNotice.markCopies.fg = s.fg ∧ s.sendNotice.markCopies.requests = s.requests ∧
      s.sendNotice.markCopies.turnPointer = s.turnPointer ∧ s.sendNotice.markCopies.settings = s.settings ∧
      s.sendNotice.markCopies.due = s.due := by
  have h := sendNotice_frame s
  simp_all [markCopies]

/-- The marker that the generator builds is the statements' (06, R128; 08, R160). -/
theorem buildMarker_eq_markerBuilt (turn : Turn) (sent : Option Notice) (s read : State) :
    s.buildMarker turn sent read.uplinkOpenNow = s.markerBuilt turn sent read := by
  cases sent <;> cases turn <;> rfl

/-- The model's states between the steps are the statements': those before the sending, -/
theorem afterSteps_before {order : FrameOrder} {k : Nat} (h : k ≤ order.before.length) (s u : State) :
    afterSteps order s u k = takeSteps (order.before.take k) s := by
  simp [afterSteps, h]

/-- and those after it. -/
theorem afterSteps_after {order : FrameOrder} {k : Nat} (h : order.before.length < k) (s u : State) :
    afterSteps order s u k = takeSteps (order.after.take (k - order.before.length)) u := by
  simp [afterSteps, Nat.not_le.mpr h]

/-- FRAME_START whose steps all come before the sending: `b` is the state in which the notice unit sends. -/
theorem exec_frameStart_sends {s b : State} (first : List FrameStep) (j k : Nat) (hq : s.due = Due.nothing)
    (hf : s.frameFollows) (hb : StepsTaken first s.begun b) (hp : b.fg.phase = .inFrame) :
    exec (.frameStart ⟨first, [], j, k⟩) s = .next (b.sendNotice.markCopies.buildMarker
      (afterSteps ⟨first, [], j, k⟩ s.begun b.sendNotice.markCopies j).chosenTurn b.sentNotice
      (afterSteps ⟨first, [], j, k⟩ s.begun b.sendNotice.markCopies k).uplinkOpenNow) := by
  rw [stepsTaken_iff, begun_eq] at hb
  subst hb
  have h0 : ∀ x, takeSteps [] x = x := fun _ => rfl
  simp only [exec_frameStart _ hq hf, frameStart, hp, h0, (sent_frame _).1, if_true, begun_eq]

end State

end Sys2Proof.Machine
end

