-- ==== Sys2Proof/Laws/Items.lean ====
section
/-!
SUPPORT. The engine items: the room that the notice reserve leaves for an item's notices (03, R52), what a bus item and a
command item do when the arbiter hands them out, and when a change of the slot map frees a position (02, R39).
-/
namespace Sys2Proof.Machine

namespace State

variable {s : State}

/-- The reserve is met when the command is handed out (03, R52). -/
theorem room_of_command (h : s.nextWork = some .command) : s.notices.length ≤ 13 := by
  unfold nextWork managementWork internalWork busWork reserveMet at h
  simp only [Config.noticeReserve, Config.noticeCapacity] at h
  by_contra hn
  have hf : ¬ (s.notices.length + 3 ≤ 16) := by omega
  simp only [hf, decide_false] at h
  cases hl : s.engine.lastServed <;> rw [hl] at h <;> cases hr : s.requests <;> simp [hr] at h <;>
    cases hz : s.lowestRetirement <;> simp [hz] at h

/-- The reserve is met when a message is handed out, and the message is the head of the queue (03, R51, R52). -/
theorem room_of_bus {r : Request} (h : s.nextWork = some (.bus r)) : s.notices.length ≤ 13 ∧ s.requests.head? = some r := by
  unfold nextWork managementWork internalWork busWork reserveMet at h
  simp only [Config.noticeReserve, Config.noticeCapacity] at h
  by_cases hf : s.notices.length + 3 ≤ 16
  · refine ⟨by omega, ?_⟩
    simp only [hf, decide_true] at h
    cases hl : s.engine.lastServed <;> rw [hl] at h <;> cases hr : s.requests <;> simp only [hr] at h <;>
      cases hz : s.lowestRetirement <;> simp [hz] at h <;> (try split_ifs at h) <;> simp_all
  · simp only [hf, decide_false] at h
    cases hl : s.engine.lastServed <;> rw [hl] at h <;> cases hr : s.requests <;> simp only [hr] at h <;>
      cases hz : s.lowestRetirement <;> simp [hz] at h

/-- The reserve is met when a compaction step is handed out (03, R52). -/
theorem room_of_compaction (h : s.nextWork = some .compaction) : s.notices.length ≤ 13 ∧ s.engine.stepReady = true := by
  unfold nextWork managementWork internalWork busWork reserveMet at h
  simp only [Config.noticeReserve, Config.noticeCapacity] at h
  by_cases hf : s.notices.length + 3 ≤ 16
  · refine ⟨by omega, ?_⟩
    simp only [hf, decide_true] at h
    cases hl : s.engine.lastServed <;> rw [hl] at h <;> cases hr : s.requests <;> simp only [hr] at h <;>
      cases hz : s.lowestRetirement <;> simp [hz] at h <;> (try split_ifs at h) <;> simp_all
  · simp only [hf, decide_false] at h
    cases hl : s.engine.lastServed <;> rw [hl] at h <;> cases hr : s.requests <;> simp only [hr] at h <;>
      cases hz : s.lowestRetirement <;> simp [hz] at h

/-- The reserve is met when a reconsideration pass is handed out (03, R52). -/
theorem room_of_reconsider (h : s.nextWork = some .reconsider) : s.notices.length ≤ 13 := by
  unfold nextWork managementWork internalWork busWork reserveMet at h
  simp only [Config.noticeReserve, Config.noticeCapacity] at h
  by_contra hn
  have hf : ¬ (s.notices.length + 3 ≤ 16) := by omega
  simp only [hf, decide_false] at h
  cases hl : s.engine.lastServed <;> rw [hl] at h <;> cases hr : s.requests <;> simp [hr] at h <;>
    cases hz : s.lowestRetirement <;> simp [hz] at h

/-- A command row whose command waits (10, R192; 11, R197). -/
theorem commandRow_waits {c : CommandCode} (hq : s.heard) (hw : s.nextWork = some .command)
    (hc : s.cmd.code = c.code) (act : Word → Word → State → CommandReply) :
    s.commandRow c act = .next (finish (act s.cmd.arg0 s.cmd.arg1 s.takeCommand)) := by
  simp only [commandRow, hear_of_heard hq, commandItem, hw, hc]
  simp

/-- A bus item whose message waits (03, R51, R58). -/
theorem busItem_waits {r : Request} (hw : s.nextWork = some (.bus r)) (hs : s.speaks r.sender = true)
    (act : Request → Option (State → State)) :
    s.busItem act = match act r with
      | some f => f s.takeHead
      | none => s := by
  cases h : act r <;> simp [busItem, hw, hs, h]

/-- With room in the notice queue an answer joins its tail and becomes the reply copy (03, R58; 07, R147). -/
theorem answer_room (s : State) (h : s.notices.length < 16) (k : Option LeaseIdx) (n : Notice) :
    s.answer k n = (s.setNotices (s.notices ++ [⟨n, k, true, false, none, false⟩])).setEntry n.address
      { s.entry n.address with reply := some ⟨n, none, false⟩ } := by
  unfold answer
  rw [submit_room _ h]
  rfl

/-- The incoming entries written on a run (02, R35). -/
theorem slotAt_writeIncoming (s : State) (i : LeaseIdx) (start : Pos) (c : LenClass) (p : Nat) :
    (s.writeIncoming i start c).slotAt p = (s.slotAt p).map fun x =>
      if start.val ≤ p ∧ p < start.val + 2 ^ c.val then { x with incoming := some ⟨i, none, none⟩ } else x := by
  refine (slotAt_mapSlots s _ p).trans ?_
  congr 1
  funext x
  have h : inRun start c p = true ↔ start.val ≤ p ∧ p < start.val + 2 ^ c.val := by
    unfold inRun runLength
    rw [Bool.and_eq_true, decide_eq_true_iff, decide_eq_true_iff]
  by_cases hi : inRun start c p = true
  · rw [if_pos hi, if_pos (h.1 hi)]
  · rw [if_neg hi, if_neg (fun hn => hi (h.2 hn))]

/-- The lease of an entry after one entry is replaced. -/
theorem leaseAt_set {s t : State} {i : LeaseIdx} {e : LeaseEntry} (h : t.leases = s.leases.set i e) (j : LeaseIdx) :
    t.leaseAt j = if j = i then e.lease else s.leaseAt j := by
  unfold leaseAt
  rw [h]
  split
  · rename_i hj
    subst hj
    simp
  · rename_i hj
    rw [Table.get_set_ne _ _ hj]

/-- A change of the position records frees a position exactly when some record becomes FREE (02, R39). -/
theorem someFreed_mapSlots (s : State) (f : Nat → Slot → Slot) :
    someFreed s.slots (s.mapSlots f).slots = true ↔
      ∃ p x, s.slotAt p = some x ∧ x.isFree = false ∧ (f p x).isFree = true := by
  unfold someFreed
  rw [List.any_eq_true]
  constructor
  · rintro ⟨⟨x, y⟩, hm, hf⟩
    obtain ⟨k, hk, he⟩ := List.getElem_of_mem hm
    simp only [List.length_zip] at hk
    simp at he hf
    have h1 : s.slotAt (k + 10) = some x := by
      simp [slotAt, Config.firstLeasable]
      rw [List.getElem?_eq_getElem (by omega)]; simp [he.1]
    have h2 : (s.mapSlots f).slotAt (k + 10) = some y := by
      simp [slotAt, Config.firstLeasable]
      rw [List.getElem?_eq_getElem (by omega)]; simp [he.2]
    rw [slotAt_mapSlots, h1] at h2
    simp at h2
    exact ⟨k + 10, x, h1, by simp [hf], by rw [h2]; exact hf.2⟩
  · rintro ⟨p, x, h1, h3, h4⟩
    have h2 : (s.mapSlots f).slotAt p = some (f p x) := by rw [slotAt_mapSlots, h1]; rfl
    refine ⟨(x, f p x), ?_, by simp [h3, h4]⟩
    unfold slotAt at h1 h2
    split at h1
    · simp at h1
    · rename_i hp
      simp only [hp, if_false] at h2
      rw [List.mem_iff_getElem?]
      exact ⟨p - Config.firstLeasable, by rw [List.getElem?_zip_eq_some]; exact ⟨h1, h2⟩⟩

end State

/-- A class that a 3-bit field names (03, R60). -/
theorem classOf_eq {b : BitVec 3} {c : LenClass} (h : c.val = b.toNat) : classOf b = some c := by
  unfold classOf
  rw [dif_pos (by have := c.2; omega)]
  exact congrArg some (Fin.ext h.symm)

/-- An aligned run within 10-63 (02, R27). -/
theorem aligned_iff (c : LenClass) (n : Nat) : aligned c n = true ↔ 10 ≤ n ∧ n % 2 ^ c.val = 0 ∧ n + 2 ^ c.val ≤ 64 := by
  unfold aligned runLength Config.firstLeasable
  rw [Bool.and_eq_true, Bool.and_eq_true, decide_eq_true_iff, decide_eq_true_iff, decide_eq_true_iff, and_assoc]

/-- The wire form of an address names its tributary. -/
theorem tribOf_wire : ∀ a : Trib, tribOf (Trib.wire a) = some a := by decide

/-- The two addresses of no tributary. -/
theorem tribOf_none : ∀ b : BitVec 5, tribOf b = none ↔ b = 0 ∨ b = 31 := by decide

end Sys2Proof.Machine
end

