-- ==== Sys2Proof/Laws/ItemFrames.lean ====
section
/-!
SUPPORT. What an engine item leaves unchanged: every item but RESTART keeps the frame generator, the turn pointer, the uplink
receiver, the credited set, the enables, the configuration and the port.
-/
namespace Sys2Proof.Machine.State

/-- The records that no engine item but RESTART writes. -/
def Aside (s t : State) : Prop :=
  t.fg = s.fg ∧ t.turnPointer = s.turnPointer ∧ t.uplink = s.uplink ∧ t.credited = s.credited ∧ t.attnEn = s.attnEn ∧
    t.settings = s.settings ∧ t.port = s.port ∧ t.pending = s.pending

theorem Aside.refl (s : State) : Aside s s := ⟨rfl, rfl, rfl, rfl, rfl, rfl, rfl, rfl⟩

theorem Aside.trans {s t u : State} (h : Aside s t) (g : Aside t u) : Aside s u := by
  obtain ⟨h1, h2, h3, h4, h5, h6, h7, h8⟩ := h
  obtain ⟨g1, g2, g3, g4, g5, g6, g7, g8⟩ := g
  exact ⟨g1.trans h1, g2.trans h2, g3.trans h3, g4.trans h4, g5.trans h5, g6.trans h6, g7.trans h7, g8.trans h8⟩

variable (s : State)

theorem aside_hear : Aside s s.hear := by simp [Aside]

theorem aside_finish {s : State} {r : CommandReply} (h : Aside s r.state) : Aside s (finish r) := by
  simpa [Aside, finish] using h

theorem aside_takeCommand : Aside s s.takeCommand := by simp [Aside, takeCommand]

/-- A command item keeps them where its own effect does. -/
theorem aside_commandItem (mine : Byte → Bool) (act : Word → Word → State → CommandReply)
    (h : ∀ a b x, Aside x (act a b x).state) : Aside s (s.commandItem mine act) := by
  unfold commandItem
  split
  · exact aside_finish ((aside_takeCommand s).trans (h _ _ _))
  · exact Aside.refl s

/-- A bus item keeps them where its own effect does. -/
theorem aside_busItem (act : Request → Option (State → State)) (h : ∀ r f x, act r = some f → Aside x (f x)) :
    Aside s (s.busItem act) := by
  have ht : Aside s s.takeHead := by simp [Aside, takeHead]
  unfold busItem
  repeat' split
  · exact ht.trans (h _ _ _ (by assumption))
  · exact ht
  · exact Aside.refl s
  · exact Aside.refl s

theorem aside_pinRun (a : Word) : Aside s (s.pinRun a).state := by
  simp only [pinRun, turnedAway, okHandle, createPin]
  repeat' split
  all_goals simp [Aside]

theorem aside_unpinRun (a : Word) : Aside s (s.unpinRun a).state := by
  unfold unpinRun turnedAway ok
  repeat' split
  all_goals simp [Aside]

theorem aside_grantToRow (a b : Word) : Aside s (s.grantToRow a b).state := by
  simp only [grantToRow, turnedAway, okHandle, grantHost]
  repeat' split
  all_goals simp [Aside]

theorem aside_endWithRevoked (i : LeaseIdx) (l : Lease) (r : EndReason) : Aside s (s.endWithRevoked i l r) := by
  simp only [endWithRevoked]
  split <;> simp [Aside]

theorem aside_revokeLease (a : Word) : Aside s (s.revokeLease a).state := by
  simp only [revokeLease, turnedAway, ok]
  repeat' split
  all_goals first | exact aside_endWithRevoked _ _ _ _ | simp [Aside]

theorem aside_setQuotas (a : Word) : Aside s (s.setQuotas a).state := by
  simp only [setQuotas, turnedAway, ok]
  repeat' split
  all_goals simp [Aside]

theorem aside_barAddress (a : Word) : Aside s (s.barAddress a).state := by
  simp only [barAddress, turnedAway, ok]
  repeat' split
  all_goals simp [Aside]

theorem aside_unbarAddress (a : Word) : Aside s (s.unbarAddress a).state := by
  simp only [unbarAddress, turnedAway, ok]
  repeat' split
  all_goals simp [Aside]

theorem aside_evictAddress (a : Word) : Aside s (s.evictAddress a).state := by
  simp only [evictAddress, turnedAway, ok]
  repeat' split
  all_goals simp [Aside]

theorem aside_clearQuarantine (a : Word) : Aside s (s.clearQuarantine a).state := by
  simp only [clearQuarantine, turnedAway, ok]
  split <;> simp [Aside]

theorem aside_startWorker : Aside s s.startWorker.state := by
  simp only [startWorker, turnedAway, ok]
  split <;> simp [Aside]

theorem aside_abortWorker : Aside s s.abortWorker.state := by
  simp only [abortWorker, turnedAway, ok]
  split <;> simp [Aside]

theorem aside_flushList : Aside s s.flushList.state := by simp [flushList, Aside]

theorem aside_grantRequest (r : Request) (a : RequestArgs) (c : LenClass) (i : LeaseIdx) (p : Pos) :
    Aside s (s.grantRequest r a c i p) := by simp [grantRequest, Aside]

theorem aside_deferRequest (r : Request) (a : RequestArgs) (c : LenClass) : Aside s (s.deferRequest r a c) := by
  simp only [deferRequest, insertDeferred]
  repeat' split
  all_goals simp [Aside]

theorem aside_refuse (a : Trib) (b : Bool) (h : Option Handle) (r : RefusalReason) : Aside s (s.refuse a b h r) := by
  simp [Aside]

theorem aside_refuseFull (r : Request) (why : RefusalReason) : Aside s (s.refuseFull r why) := by
  simp [refuseFull, Aside]

theorem aside_noSpace (r : Request) (a : RequestArgs) (c : LenClass) (i : LeaseIdx) : Aside s (s.noSpace r a c i) := by
  unfold noSpace
  split
  · exact (aside_endWithRevoked _ _ _ _).trans (aside_grantRequest _ _ _ _ _ _)
  · split
    · exact aside_deferRequest _ _ _ _
    · exact aside_refuseFull _ _ _

theorem aside_admitRequest (r : Request) (a : RequestArgs) : Aside s (s.admitRequest r a) := by
  unfold admitRequest
  split
  · exact aside_refuse _ _ _ _ _
  split
  · exact aside_refuse _ _ _ _ _
  split
  · exact aside_refuse _ _ _ _ _
  split
  · exact aside_refuse _ _ _ _ _
  split
  · split
    · exact aside_deferRequest _ _ _ _
    · exact aside_refuseFull _ _ _
  · split
    · exact aside_grantRequest _ _ _ _ _ _
    · exact aside_noSpace _ _ _ _ _

theorem aside_withdrawDeferred (r : Request) : Aside s (s.withdrawDeferred r) := by
  simp only [withdrawDeferred]
  split <;> simp [Aside]

theorem aside_renewLease (r : Request) (h : Handle) (n : BitVec 16) : Aside s (s.renewLease r h n) := by
  simp only [renewLease, extend]
  repeat' split
  all_goals simp [Aside]

theorem aside_releaseLease (r : Request) (h : Handle) : Aside s (s.releaseLease r h) := by
  simp only [releaseLease]
  repeat' split
  all_goals simp [Aside]

theorem aside_queryLease (r : Request) (h : Handle) : Aside s (s.queryLease r h) := by
  simp only [queryLease]
  repeat' split
  all_goals simp [Aside]

theorem aside_compactOnce : Aside s s.compactOnce := by
  simp only [compactOnce, decideMove]
  repeat' split
  all_goals simp [Aside]

theorem aside_reconsiderOnce : Aside s s.reconsiderOnce := by
  simp only [reconsiderOnce]
  split <;> simp [Aside]

/-- RESTART, when it is taken, stops the generator with no frame in progress (06, R124). -/
theorem phase_restart (x : State) : (finish x.restartBus).fg.phase = .between := by
  simp [finish, restartBus, ok, restartWorker, restartQueues, restartRecords]

/-- The row of an engine item keeps these records, or it was a RESTART and no frame is in progress. -/
theorem aside_itemRow {c : Instr} (hc : isItemRow c = true) {t u : State} (hu : itemRow c t = .next u) :
    Aside t u ∨ u.fg.phase = .between := by
  have hs := aside_hear t
  have hb : ∀ act, (∀ r f x, act r = some f → Aside x (f x)) → Aside t (t.hear.busItem act) :=
    fun act h => hs.trans (aside_busItem _ act h)
  have hm : ∀ m act, (∀ a b x, Aside x (act a b x).state) → Aside t (t.hear.commandItem m act) :=
    fun m act h => hs.trans (aside_commandItem _ m act h)
  have hv : ∀ (r : Requester) (x : State), Aside x (x.serve r) := fun r x => by simp [Aside]
  have hr : ∀ (a : Trib) (r : EndReason) (f : RosterState) (x : State), Aside x (x.holderRemoval a r f) :=
    fun a r f x => by simp [Aside]
  cases c <;> simp only [isItemRow, Bool.false_eq_true] at hc <;>
    simp only [itemRow, execRequest, execWithdraw, execRenew, execRelease, execQuery, execLeave, execHolderRetirement,
      execCompactionStep, execReconsiderationPass, execPin, execUnpin, execGrantTo, execRevoke, execSetQuota, execBar,
      execUnbar, execEvict, execClearQ, execCompact, execCompactAbort, execFlushDeferred, execRestart, execUnknownCommand,
      commandRow, Host.Outcome.next.injEq] at hu <;> subst hu
  case request =>
    refine Or.inl (hb _ fun r f x h => ?_)
    split at h <;> simp only [Option.some.injEq, reduceCtorEq] at h
    exact h ▸ aside_admitRequest _ _ _
  case withdraw =>
    refine Or.inl (hb _ fun r f x h => ?_)
    split at h <;> simp only [Option.some.injEq, reduceCtorEq] at h
    exact h ▸ aside_withdrawDeferred _ _
  case renew =>
    refine Or.inl (hb _ fun r f x h => ?_)
    split at h <;> simp only [Option.some.injEq, reduceCtorEq] at h
    exact h ▸ aside_renewLease _ _ _ _
  case release =>
    refine Or.inl (hb _ fun r f x h => ?_)
    split at h <;> simp only [Option.some.injEq, reduceCtorEq] at h
    exact h ▸ aside_releaseLease _ _ _
  case query =>
    refine Or.inl (hb _ fun r f x h => ?_)
    split at h <;> simp only [Option.some.injEq, reduceCtorEq] at h
    exact h ▸ aside_queryLease _ _ _
  case leave =>
    refine Or.inl (hb _ fun r f x h => ?_)
    split at h <;> simp only [Option.some.injEq, reduceCtorEq] at h
    exact h ▸ hr _ _ _ _
  case holderRetirement =>
    refine Or.inl (hs.trans ?_)
    split
    · exact (hv _ _).trans (hr _ _ _ _)
    · exact Aside.refl _
  case compactionStep =>
    refine Or.inl (hs.trans ?_)
    split
    · exact (hv _ _).trans (aside_compactOnce _)
    · exact Aside.refl _
  case reconsiderationPass =>
    refine Or.inl (hs.trans ?_)
    split
    · exact (hv _ _).trans (aside_reconsiderOnce _)
    · exact Aside.refl _
  case pin => exact Or.inl (hm _ _ fun _ _ _ => aside_pinRun _ _)
  case unpin => exact Or.inl (hm _ _ fun _ _ _ => aside_unpinRun _ _)
  case grantTo => exact Or.inl (hm _ _ fun _ _ _ => aside_grantToRow _ _ _)
  case revoke => exact Or.inl (hm _ _ fun _ _ _ => aside_revokeLease _ _)
  case setQuota => exact Or.inl (hm _ _ fun _ _ _ => aside_setQuotas _ _)
  case bar => exact Or.inl (hm _ _ fun _ _ _ => aside_barAddress _ _)
  case unbar => exact Or.inl (hm _ _ fun _ _ _ => aside_unbarAddress _ _)
  case evict => exact Or.inl (hm _ _ fun _ _ _ => aside_evictAddress _ _)
  case clearQ => exact Or.inl (hm _ _ fun _ _ _ => aside_clearQuarantine _ _)
  case compact => exact Or.inl (hm _ _ fun _ _ _ => aside_startWorker _)
  case compactAbort => exact Or.inl (hm _ _ fun _ _ _ => aside_abortWorker _)
  case flushDeferred => exact Or.inl (hm _ _ fun _ _ _ => aside_flushList _)
  case unknownCommand => exact Or.inl (hm _ _ fun _ _ _ => Aside.refl _)
  case restart =>
    unfold commandItem
    split
    · exact Or.inr (phase_restart _)
    · exact Or.inl hs

/-- An item taken keeps these records, or it was a RESTART and no frame is in progress (06, R124). -/
theorem aside_takeItem : Aside s s.takeItem ∨ s.takeItem.fg.phase = .between := by
  unfold takeItem
  dsimp only
  split
  · exact Or.inl (aside_hear s)
  · split
    · rename_i u hu
      exact (aside_itemRow (isItemRow_rowOfWork _ _) hu).imp (aside_hear s).trans id
    · exact Or.inl (aside_hear s)

/-- A step of a frame start keeps these records, or it was a RESTART and no frame is in progress (06, R124). -/
theorem aside_takeStep (x : FrameStep) : Aside s (s.takeStep x) ∨ (s.takeStep x).fg.phase = .between := by
  cases x with
  | react r => exact Or.inl (by simp [takeStep, Aside])
  | item => exact aside_takeItem s

/-- Steps that leave a frame in progress keep these records: none was a RESTART (06, R124). -/
theorem aside_takeSteps (l : List FrameStep) (h : (takeSteps l s).fg.phase = .inFrame) : Aside s (takeSteps l s) := by
  induction l generalizing s with
  | nil => exact Aside.refl s
  | cons x rest ih =>
    have g := ih (s.takeStep x) h
    rcases aside_takeStep s x with k | k
    · exact k.trans g
    · have e : (takeSteps rest (s.takeStep x)).fg = (s.takeStep x).fg := g.1
      rw [show takeSteps (x :: rest) s = takeSteps rest (s.takeStep x) from rfl, e, k] at h
      exact absurd h (by simp)

end Sys2Proof.Machine.State
end

