-- ==== Sys2Proof/Laws/Port.lean ====
section
/-!
SUPPORT. The bytes of a port write (10, R183), and what the port does in a transaction.
-/
namespace Sys2Proof

/-- A bit of the four byte lanes: bit `i % 8` of byte `i / 8` (10, R183). -/
theorem getLsbD_wordOfBytes (l : List Byte) (i : Nat) (hi : i < 32) :
    (wordOfBytes l).getLsbD i = (l.getD (i / 8) 0).getLsbD (i % 8) := by
  induction l generalizing i with
  | nil => simp [wordOfBytes]
  | cons b bs ih =>
    rw [wordOfBytes, BitVec.getLsbD_or, BitVec.getLsbD_setWidth, BitVec.getLsbD_shiftLeft]
    by_cases h : i < 8
    · have h0 : i / 8 = 0 := Nat.div_eq_of_lt h
      simp [h, hi, h0, Nat.mod_eq_of_lt h]
    · have hb : b.getLsbD i = false := BitVec.getLsbD_of_ge _ _ (by omega)
      have h1 : i / 8 = (i - 8) / 8 + 1 := by omega
      have h2 : i % 8 = (i - 8) % 8 := by omega
      rw [ih (i - 8) (by omega), h1, h2]
      simp [h, hi, hb]

/-- A bit of the mask of the low `n` bytes. -/
theorem getLsbD_byteMask (n i : Nat) (hi : i < 32) : (byteMask n).getLsbD i = decide (i < 8 * n) := by
  rw [byteMask, BitVec.getLsbD_ofNat, Nat.testBit_two_pow_sub_one]
  simp [hi]

/-- A bit of what a completed write makes of a register: the counted bytes are those received, the others are kept
(10, R183). -/
theorem PortWrite.getLsbD_merge (w : PortWrite) (old : Word) (i : Nat) (hi : i < 32) :
    (w.merge old).getLsbD i =
      if i / 8 < w.count.toNat then (w.data.getD (i / 8) 0).getLsbD (i % 8) else old.getLsbD i := by
  have hm : (i < 8 * w.count.toNat) ↔ (i / 8 < w.count.toNat) := by omega
  simp only [PortWrite.merge, BitVec.getLsbD_or, BitVec.getLsbD_and, BitVec.getLsbD_not,
    getLsbD_byteMask _ _ hi, getLsbD_wordOfBytes _ _ hi, hm, hi]
  by_cases h : i / 8 < w.count.toNat
  · simp [h]
  · simp [h]

/-- A byte of what a completed write makes of a register (10, R183). -/
theorem PortWrite.extract_merge (w : PortWrite) (old : Word) (k : Nat) (hk : k < 4) :
    (w.merge old).extractLsb' (8 * k) 8 =
      if k < w.count.toNat then w.data.getD k 0 else old.extractLsb' (8 * k) 8 := by
  ext j hj
  have h1 : (8 * k + j) / 8 = k := by omega
  have h2 : (8 * k + j) % 8 = j := by omega
  rw [BitVec.getElem_extractLsb', w.getLsbD_merge old _ (by omega), h1, h2]
  by_cases h : k < w.count.toNat
  · simp [h, BitVec.getLsbD_eq_getElem hj]
  · simp [h]

namespace Machine

/-- The offsets that name a register (10, R183). -/
theorem registerAt_isSome : ∀ o : Byte, (registerAt o).isSome = offsetNamed o := by decide +kernel

namespace State

/-- A transaction whose offset, count or address is not acknowledged changes no register (10, R183). -/
theorem portWrite_refused (s : State) (o : Byte) (w : PortWrite) (e : Bool)
    (h : w.device ≠ s.deviceAddress ∨ countNamed w.count = false ∨ offsetNamed o = false) :
    s.portWrite o w e = s.setTransaction (if e then .idle else .ignored) := by
  have : s.acknowledged w.device o w.count = none := by
    unfold acknowledged
    split
    · rename_i h'
      rcases h with h | h | h
      · exact absurd h'.1 h
      · exact absurd h'.2 (by simp [h])
      · rw [← registerAt_isSome] at h
        exact Option.not_isSome_iff_eq_none.1 (by simp [h])
    · rfl
  simp [portWrite, this]

/-- A complete write at the offset of a register (10, R183). -/
theorem portWrite_complete (s : State) {o : Byte} {w : PortWrite} {r : Register} (e : Bool) (hr : registerAt o = some r)
    (hd : w.device = s.deviceAddress) (hw : w.complete = true) :
    s.portWrite o w e = ((s.keepPhase o w.count).setTransaction
      (if e then .idle else .receiving o w.count (w.data.take w.count.toNat))).writeRegister r w := by
  simp only [PortWrite.complete, Bool.and_eq_true, decide_eq_true_eq] at hw
  have hc : countNamed w.count = true := by simp [countNamed, hw.1.1, hw.1.2]
  simp [portWrite, acknowledged, hd, hc, hr, Nat.not_lt.mpr hw.2]

/-- A write short of its last counted byte (10, R183). -/
theorem portWrite_short (s : State) {o : Byte} {w : PortWrite} (e : Bool) (ho : offsetNamed o = true)
    (hd : w.device = s.deviceAddress) (hc : countNamed w.count = true) (hw : w.data.length < w.count.toNat) :
    s.portWrite o w e = (s.keepPhase o w.count).setTransaction (if e then .idle else .receiving o w.count w.data) := by
  rw [← registerAt_isSome] at ho
  obtain ⟨r, hr⟩ := Option.isSome_iff_exists.1 ho
  simp [portWrite, acknowledged, hd, hc, hr, hw, List.take_of_length_le (Nat.le_of_lt hw)]

/-- A register's write reads only the counted bytes (10, R183). -/
theorem merge_take (device : BitVec 7) (w : PortWrite) (old : Word) :
    (⟨device, w.count, w.data.take w.count.toNat⟩ : PortWrite).merge old = w.merge old := by
  simp [PortWrite.merge, List.take_take]

/-- The transaction alone is written. -/
theorem port_setTransaction (s : State) (x : PortTransaction) :
    (s.setTransaction x).port = { s.port with transaction := x } := rfl

/-- The port's own address with the read bit takes the register at the kept offset (10, R184). -/
theorem portReadAddress_own (s : State) {r : Register} (hr : registerAt s.port.keptOffset = some r) :
    s.portReadAddress s.deviceAddress = some ⟨s.readRegister r, s.port.keptCount⟩ := by
  simp [portReadAddress, hr]

/-- Another device's address takes nothing (10, R183). -/
theorem portReadAddress_other (s : State) {device : BitVec 7} (h : device ≠ s.deviceAddress) :
    s.portReadAddress device = none := by
  simp [portReadAddress, h]

/-- A read of the port's own address (10, R184). -/
theorem portRead_own (s : State) {r : Register} (hr : registerAt s.port.keptOffset = some r) :
    s.portRead s.deviceAddress =
      s.finishEvents.setTransaction (.sending ⟨s.finishEvents.readRegister r, s.port.keptCount⟩ 0) := by
  have h : s.finishEvents.portReadAddress s.deviceAddress = some ⟨s.finishEvents.readRegister r, s.port.keptCount⟩ := by
    simp [portReadAddress, deviceAddress, hr]
  simp [portRead, h]

/-- Another device's read is let pass (10, R183). -/
theorem portRead_other (s : State) {device : BitVec 7} (h : device ≠ s.deviceAddress) :
    s.portRead device = s.setTransaction .ignored := by
  have h' : device ≠ s.finishEvents.deviceAddress := by simpa [deviceAddress] using h
  simp [portRead, portReadAddress_other _ h']

end State

end Machine

end Sys2Proof
end

