-- ==== Sys2Proof/Laws/Retire.lean ====
section
/-!
SUPPORT. Retirement (01, R22) and the removal of a move (05, R107), said once: what each makes of each record it changes.
-/
namespace Sys2Proof.Machine

/-- A position record after the vacate at once of lease `i` at counter `now` (02, R37). -/
theorem Slot.dropIncoming_vacateNow (i : LeaseIdx) (g : Frame) (x : Slot) :
    (x.vacateNow i g).dropIncoming i =
      (let y : Slot := if x.owner = some i then { x with owner := none, ownerUntil := none, guardUntil := some g } else x
       if x.incoming.map Incoming.lease = some i then { y with incoming := none } else y) := by
  obtain ⟨o, ou, inc, g', q⟩ := x
  simp only [Slot.dropIncoming, Slot.vacateNow, Slot.ownedBy, Slot.awaits]
  by_cases h : o = some i <;> cases inc <;> simp [h]

/-- A position record without the incoming entry of lease `i` (02, R38). -/
theorem Slot.dropIncoming_eq (i : LeaseIdx) (x : Slot) :
    x.dropIncoming i = if x.incoming.map Incoming.lease = some i then { x with incoming := none } else x := by
  obtain ⟨o, ou, inc, g', q⟩ := x
  simp only [Slot.dropIncoming, Slot.awaits]
  cases inc <;> simp

namespace State

/-- Position records depend on the slot map alone. -/
theorem slotAt_congr {s t : State} (h : s.slots = t.slots) (p : Nat) : s.slotAt p = t.slotAt p := by
  unfold slotAt
  rw [h]

variable (s : State)

theorem slotAt_vacateAtOnce (i : LeaseIdx) (p : Nat) :
    (s.vacateAtOnce i).slotAt p = (s.slotAt p).map fun x =>
      (let y : Slot := if x.owner = some i
        then { x with owner := none, ownerUntil := none, guardUntil := some (s.counter + 2) } else x
       if x.incoming.map Incoming.lease = some i then { y with incoming := none } else y) := by
  unfold vacateAtOnce
  rw [noteSpaceFreed_form]
  refine (slotAt_mapSlots s _ p).trans ?_
  simp only [Slot.dropIncoming_vacateNow]

theorem slotAt_removeIncoming (i : LeaseIdx) (p : Nat) :
    (s.removeIncoming i).slotAt p = (s.slotAt p).map fun x =>
      if x.incoming.map Incoming.lease = some i then { x with incoming := none } else x := by
  unfold removeIncoming
  rw [noteSpaceFreed_form]
  refine (slotAt_mapSlots s _ p).trans ?_
  congr 1
  funext x
  exact Slot.dropIncoming_eq i x

/-- The worker after a move of `h` with old start `p` is overtaken (05, R112). -/
theorem overtake_form (h : Handle) (p : Pos) :
    s.overtake h p =
      (s.setWorker (if s.worker.underMove = some h
        then { s.worker with status := .active .step, scan := p.val + 1, underMove := none } else s.worker)).setEngine
          { s.engine with stepReady := if s.worker.underMove = some h then true else s.engine.stepReady } := by
  unfold overtake setStepReady
  split
  · rfl
  · rfl

/-- A retirement changes the counts and the forgotten GRANT copy of the holder's entry (07, R134, R149). -/
theorem entry_retire_other {i : LeaseIdx} {r : EndReason} {l : Lease} (hl : s.leaseAt i = some l) {b : Trib}
    (hb : l.holder ≠ some b) : (s.retire i r).entry b = s.entry b := by
  unfold retire
  simp only [hl, setReconsider, entry, freeLease, roster_setEngine, roster_setLeases]
  unfold forgetGrantCopy
  have hd : ∀ x : State, x.roster.get b = s.roster.get b → ∀ t, l.holder = some t → ∀ e, (x.setEntry t e).roster.get b =
      s.roster.get b := by
    intro x hx t ht e
    have : b ≠ t := fun h => hb (h ▸ ht)
    simp only [setEntry, roster_setRoster]
    rw [Table.get_set_ne _ _ this, hx]
  have h0 : (s.dropHeld l).roster.get b = s.roster.get b := by
    unfold dropHeld
    split
    · rfl
    · rename_i t ht
      exact hd s rfl t ht _
  have h1 : ((((s.dropHeld l).vacateAtOnce i).overtake (s.handleOf i) l.start).withdrawHandle (s.handleOf i)).roster.get b =
      s.roster.get b := by
    simpa using h0
  split
  · exact h1
  · rename_i t ht
    split
    · exact h1
    · split
      · exact hd _ h1 t ht _
      · exact h1

/-- The entry of a retired lease's holder: the counts fall, and a GRANT of the lease is no longer its reply copy (07, R134,
R149). -/
theorem entry_retire_holder {i : LeaseIdx} {r : EndReason} {l : Lease} (hl : s.leaseAt i = some l) {a : Trib}
    (ha : l.holder = some a) :
    (s.retire i r).entry a =
      (let e : RosterEntry := { s.entry a with
         slotsHeld := (s.entry a).slotsHeld - runLength l.cls, leasesHeld := (s.entry a).leasesHeld - 1 }
       if l.origin = .bus ∧ (e.reply.any fun c => c.notice.isGrant && decide (c.notice.handle = some (s.handleOf i))) = true
       then { e with reply := none, lastSeq := none } else e) := by
  have hr : ((((s.dropHeld l).vacateAtOnce i).overtake (s.handleOf i) l.start).withdrawHandle (s.handleOf i)).roster =
      s.roster.set a { s.entry a with
         slotsHeld := (s.entry a).slotsHeld - runLength l.cls, leasesHeld := (s.entry a).leasesHeld - 1 } := by
    simp [dropHeld, ha, setEntry]
  unfold retire
  simp only [hl, setReconsider, entry, freeLease, roster_setEngine, roster_setLeases]
  unfold forgetGrantCopy
  simp only [ha, entry, hr, Table.get_set_eq]
  split
  · rename_i hc
    rw [hr]
    simp [hc, entry]
  · rename_i c hc
    simp only [hc, Option.any_some, Bool.and_eq_true, decide_eq_true_eq]
    split
    · simp [setEntry]
    · rw [hr]
      simp [entry, hc]

theorem leases_retire {i : LeaseIdx} {r : EndReason} {l : Lease} (hl : s.leaseAt i = some l) :
    (s.retire i r).leases = s.leases.set i ⟨(s.leases.get i).generation + 1, some r, none⟩ := by
  unfold retire
  simp only [hl, setReconsider, freeLease, leases_setEngine, leases_setLeases]
  simp

theorem slotAt_retire {i : LeaseIdx} {r : EndReason} {l : Lease} (hl : s.leaseAt i = some l) (p : Nat) :
    (s.retire i r).slotAt p = (s.slotAt p).map fun x =>
      (let y : Slot := if x.owner = some i
        then { x with owner := none, ownerUntil := none, guardUntil := some (s.counter + 2) } else x
       if x.incoming.map Incoming.lease = some i then { y with incoming := none } else y) := by
  have h1 : (s.retire i r).slots = ((s.dropHeld l).vacateAtOnce i).slots := by
    unfold retire
    simp only [hl, setReconsider, freeLease, slots_setEngine, slots_setLeases]
    simp
  rw [slotAt_congr h1, slotAt_vacateAtOnce]
  have h2 : (s.dropHeld l).slotAt p = s.slotAt p := slotAt_congr (by simp) p
  have h3 : (s.dropHeld l).counter = s.counter := by simp [counter]
  rw [h2, h3]

theorem notices_retire {i : LeaseIdx} {r : EndReason} {l : Lease} (hl : s.leaseAt i = some l) :
    (s.retire i r).notices = s.notices.filter fun q => decide (q.notice.handle ≠ some (s.handleOf i)) := by
  unfold retire
  simp only [hl, setReconsider, notices_setEngine]
  simp [withdrawHandle]

theorem worker_retire {i : LeaseIdx} {r : EndReason} {l : Lease} (hl : s.leaseAt i = some l) :
    (s.retire i r).worker = if s.worker.underMove = some (s.handleOf i)
      then { s.worker with status := .active .step, scan := l.start.val + 1, underMove := none } else s.worker := by
  unfold retire
  simp only [hl, setReconsider, worker_setEngine, overtake_form]
  simp

theorem engine_retire {i : LeaseIdx} {r : EndReason} {l : Lease} (hl : s.leaseAt i = some l) :
    (s.retire i r).engine = { s.engine with
      reconsider := true
      stepReady := if s.worker.underMove = some (s.handleOf i) then true else s.engine.stepReady } := by
  unfold retire
  simp only [hl, setReconsider, overtake_form, vacateAtOnce, noteSpaceFreed_form]
  simp

/-! ### The removal of a move, said once (05, R107) -/

/-- Incoming entries removed with no guard set deferred-reconsider exactly where a position became FREE (02, R38, R39). -/
theorem reconsider_removeIncoming (i : LeaseIdx) :
    (s.removeIncoming i).engine.reconsider = true ↔ s.engine.reconsider = true ∨ ∃ p x y,
      s.slotAt p = some x ∧ (s.removeIncoming i).slotAt p = some y ∧ x.isFree = false ∧ y.isFree = true := by
  have hs : ∀ p, (s.removeIncoming i).slotAt p = (s.slotAt p).map (Slot.dropIncoming i) := by
    intro p
    rw [slotAt_removeIncoming]
    congr 1
    funext x
    exact (Slot.dropIncoming_eq i x).symm
  have he : (s.removeIncoming i).engine.reconsider =
      (s.engine.reconsider || someFreed s.slots (s.mapSlots fun _ => Slot.dropIncoming i).slots) := by
    unfold removeIncoming
    rw [noteSpaceFreed_form]
    rfl
  rw [he, Bool.or_eq_true, someFreed_mapSlots]
  refine or_congr Iff.rfl ⟨?_, ?_⟩
  · rintro ⟨p, x, hx, h1, h2⟩
    exact ⟨p, x, _, hx, by rw [hs, hx]; rfl, h1, h2⟩
  · rintro ⟨p, x, y, hx, hy, h1, h2⟩
    rw [hs, hx] at hy
    cases hy
    exact ⟨p, x, hx, h1, h2⟩

variable {s}

theorem slotAt_removeMove {i : LeaseIdx} {l : Lease} (hl : s.leaseAt i = some l) (p : Nat) :
    (s.removeMove i).slotAt p = (s.slotAt p).map fun x =>
      if x.incoming.map Incoming.lease = some i then { x with incoming := none } else x := by
  unfold removeMove
  simp only [hl, overtake_form]
  exact slotAt_removeIncoming (s.withdrawMove i) i p

theorem leases_removeMove {i : LeaseIdx} {l : Lease} (hl : s.leaseAt i = some l) :
    (s.removeMove i).leases = s.leases.set i { s.leases.get i with lease := some { l with move := none } } := by
  unfold removeMove
  simp [hl, overtake_form, setLease, removeIncoming, noteSpaceFreed_form, withdrawMove, mapSlots]

theorem notices_removeMove {i : LeaseIdx} {l : Lease} (hl : s.leaseAt i = some l) :
    (s.removeMove i).notices = s.notices.filter fun q => !(decide (q.link = some i) && q.notice.isMove) := by
  unfold removeMove
  simp [hl, overtake_form, setLease, removeIncoming, noteSpaceFreed_form, withdrawMove, mapSlots]

theorem worker_removeMove {i : LeaseIdx} {l : Lease} (hl : s.leaseAt i = some l) :
    (s.removeMove i).worker = if s.worker.underMove = some (s.handleOf i)
      then { s.worker with status := .active .step, scan := l.start.val + 1, underMove := none } else s.worker := by
  unfold removeMove
  simp [hl, overtake_form, setLease, removeIncoming, noteSpaceFreed_form, withdrawMove, mapSlots]
  congr

theorem engine_removeMove {i : LeaseIdx} {l : Lease} (hl : s.leaseAt i = some l) :
    (s.removeMove i).engine = { s.engine with
      reconsider := (s.removeIncoming i).engine.reconsider
      stepReady := if s.worker.underMove = some (s.handleOf i) then true else s.engine.stepReady } := by
  unfold removeMove
  by_cases hu : s.worker.underMove = some (s.handleOf i) <;>
    simp [hl, hu, overtake_form, setLease, removeIncoming, noteSpaceFreed_form, withdrawMove, mapSlots]

/-- The worker after the arrival of a move of `h` at `p` (05, R111). -/
theorem completeMove_form (s : State) (h : Handle) (p : Pos) :
    s.completeMove h p =
      (s.setWorker (if s.worker.underMove = some h
        then ⟨.active .step, p.val, none, min 255 (s.worker.moves + 1)⟩ else s.worker)).setEngine
          { s.engine with stepReady := if s.worker.underMove = some h then true else s.engine.stepReady } := by
  unfold completeMove setStepReady
  split <;> rfl

end State

end Sys2Proof.Machine
end

