-- ==== Sys2Proof/Tests/Slice0.lean ====
section
/-!
SUPPORT. Tests: an ill-formed command for each check, values that the manual works out, one step of a command, and for every
statement with hypotheses a concrete state that meets them, each clause at a boundary of its range.
-/
namespace Sys2Proof.Tests

open Sys2Proof.Machine

set_option Elab.async false

/-! ### Ill-formed commands -/

/-- A write of `count` bytes with the data given, to the device with both straps low. -/
def writeOf (count : Byte) (data : List Byte) : PortWrite := ⟨0x2C, count, data⟩

theorem test_wellFormed_count_zero : (Instr.cmdWrite (writeOf 0 [])).wellFormed = false := by decide
theorem test_wellFormed_count_five : (Instr.timingWrite (writeOf 5 [1, 2, 3, 4, 5])).wellFormed = false := by decide
theorem test_wellFormed_data_short : (Instr.limitsWrite (writeOf 2 [1])).wellFormed = false := by decide
theorem test_wellFormed_start_request : (Instr.startRequest (writeOf 1 [2])).wellFormed = false := by decide
theorem test_wellFormed_halt_request : (Instr.haltRequest (writeOf 1 [1])).wellFormed = false := by decide
theorem test_wellFormed_resume_request : (Instr.resumeRequest (writeOf 1 [0])).wellFormed = false := by decide
theorem test_wellFormed_reaction_twice : (Instr.frameStart ⟨[.react .waits], [.item, .react .waits], 0, 0⟩).wellFormed = false := by decide
theorem test_wellFormed_offset_odd : (Instr.registerWrite 0x22 (.whole (writeOf 1 [0]))).wellFormed = false := by decide
theorem test_wellFormed_offset_high : (Instr.registerWrite 0x44 (.whole (writeOf 1 [0]))).wellFormed = false := by decide
theorem test_wellFormed_offset_of_row : (Instr.registerWrite 0x28 (.whole (writeOf 1 [0]))).wellFormed = false := by decide
theorem test_wellFormed_control_request : (Instr.registerWrite 0x04 (.whole (writeOf 1 [1]))).wellFormed = false := by decide
theorem test_wellFormed_control_plain : (Instr.registerWrite 0x04 (.whole (writeOf 2 [0, 1]))).wellFormed = true := by decide

/-! ### Values the manual works out -/

/-- The bits of the ASCII characters 1 to 9. -/
def digits : List Bool := ([0x31, 0x32, 0x33, 0x34, 0x35, 0x36, 0x37, 0x38, 0x39] : List Byte).flatMap bitsOf

theorem test_crc16_digits : crc16 digits = 0x29B1 := by decide +kernel
theorem test_crc8_digits : crc8 digits = 0xF4 := by decide +kernel
theorem test_handle_7_2 : (⟨7, 2⟩ : Handle).wire = 0x3A := by decide
theorem test_handle_31_7 : (⟨31, 7⟩ : Handle).wire = 0xFF := by decide

/-! ### Small states -/

/-- A tributary's entry with the state given and identity 0x51C3. -/
def enrolled (a : Trib) (st : RosterState) (s : State) : State :=
  s.setEntry a { s.entry a with state := st, identity := some 0x51C3 }

/-- The entry of `a` with `slots` and `leases` held. -/
def holding (a : Trib) (slots leases : Nat) (s : State) : State :=
  s.setEntry a { s.entry a with slotsHeld := slots, leasesHeld := leases }

/-- A lease of tributary 6 on positions 10 and 11. -/
def sampleLease : Lease :=
  ⟨.active, some 5, .bus, 10, 1, 1, 65535, some 40, none, none, true, false, 0, none, false⟩

/-- Entry `i` holds the lease `l`, generation 2. -/
def withLease (i : LeaseIdx) (l : Lease) (s : State) : State := s.setLeases (s.leases.set i ⟨2, none, some l⟩)

/-- Position `p` has the record `x`. -/
def withSlot (p : Nat) (x : Slot) (s : State) : State := s.mapSlots fun q y => if q = p then x else y

/-- A command latched. -/
def commanded (code : Byte) (arg0 arg1 : Word) (s : State) : State :=
  s.setCmd ⟨.accepted, code, arg0, arg1, ⟨0, .none, 0⟩⟩

/-- A message of tributary 6, PRESENT, at the head of the request queue. -/
def messaged (m : Message) (s : State) : State := (enrolled 5 .present s).setRequests [⟨5, m, false, 0⟩]

/-- A REQUEST. -/
def asking (cls : BitVec 3) (term : BitVec 16) (defer : Bool) : RequestArgs := ⟨cls, 2, term, defer, 0⟩

/-- The generator in `g` and `ph`, with the counter given. -/
def framedAt (n : Frame) (g : GenState) (ph : FramePhase) (s : State) : State := s.setFg ⟨g, n, ph, false, none, none⟩

/-- The generator in `g` and `ph`, at frame 50. -/
def framed (g : GenState) (ph : FramePhase) (s : State) : State := framedAt 50 g ph s

/-- A frame in progress with the turn given. -/
def turned (t : Turn) (s : State) : State := (framed .running .inFrame s).setUplink ⟨some t, some true, none⟩

/-- A notice linked to lease 0, first in the queue. -/
def noticed (b : NoticeBody) (link : Option LeaseIdx) (copy : Bool) (effect : Option Frame) (s : State) : State :=
  s.setNotices [⟨⟨5, some ⟨0, 2⟩, true, b⟩, link, false, copy, effect, false⟩]

/-- Sixteen notices. -/
def crowded (s : State) : State := s.setNotices (List.replicate 16 ⟨⟨0, none, false, .expired .expired⟩, none, false, false, none, false⟩)

/-- A message of `sender` with a good check. -/
def spoken (kind : BitVec 4) (sender : BitVec 5) (seq : Bool) (handle : BitVec 8) (arg : BitVec 30) : BitVec 64 :=
  let payload : BitVec 48 := kind ++ sender ++ BitVec.ofBool seq ++ handle ++ arg
  payload ++ crc16 (bitsOf payload)

/-- A JOIN for address 6 by the device 0x51C3 (12, section 12.1). -/
def joinWord : BitVec 64 := spoken 2 6 false 0 ((0x51C3 : BitVec 16) ++ (0 : BitVec 14))

/-- A deferred request of tributary `a` with the priority given. -/
def waiting (a : Trib) (priority : BitVec 2) : Deferred := ⟨a, false, 1, priority, 9, none, 0, 64⟩

/-- The report rows are due as given. -/
def reacting (d : Due) (s : State) : State := s.setDue d

/-- Eight entries of the priority given. -/
def eight (priority : BitVec 2) : List Deferred := (List.range 8).map fun k => waiting (Fin.ofNat 30 (k + 10)) priority

/-- Frame 50 with lease 0 on position 10, whose record is `x`, and every reaction due. -/
def starting (l : Lease) (x : Slot) : State :=
  reacting ⟨true, true, true, true, true, true, none, []⟩ (withSlot 10 x (withLease 0 l (framed .running .inFrame State.reset)))

/-- A notice to tributary 6 that names lease 0. -/
def naming (b : NoticeBody) (link : Option LeaseIdx) (answer copy : Bool) (effect : Option Frame) : QueuedNotice :=
  ⟨⟨5, some ⟨0, 2⟩, true, b⟩, link, answer, copy, effect, false⟩

/-- Between frames 50 and 51, with lease 0 and the notices given. -/
def queued (l : Lease) (qs : List QueuedNotice) : State :=
  (withLease 0 l (framed .running .between State.reset)).setNotices qs

/-- The frame begun, and the steps listed taken. -/
abbrev stepped (first : List FrameStep) (s : State) : State := s.begun.takeSteps first

/-- The notice unit sends `q` at the next frame start, once the steps listed are taken, and `rest` stay. -/
abbrev sends (first : List FrameStep) (s : State) (q : QueuedNotice) (rest : List QueuedNotice) : Prop :=
  s.quiet ∧ s.frameFollows ∧ (stepped first s).fg.phase = .inFrame ∧
    (stepped first s).notices.dropWhile (QueuedNotice.runsOut s.newFrame) = q :: rest

/-- The state of an outcome. -/
def after (r : Machine.Result) : Option State :=
  match r with
  | .next s => some s
  | _ => none

/-! ### One step -/

theorem test_pin_result : (after (exec .pin (commanded 0x01 0x430 0 State.reset))).map State.resultWord = some 0x00000101 := by
  decide +kernel
theorem test_pin_position : ((after (exec .pin (commanded 0x01 0x430 0 State.reset))).bind (State.slotAt 48)) =
    some ⟨some 0, none, none, none, false⟩ := by decide +kernel
theorem test_unknown_command : (after (exec .unknownCommand (commanded 0x0D 0 0 State.reset))).map State.resultWord =
    some 0x0000020D := by decide +kernel
theorem test_join_roster : (after (exec (.uplinkArrival joinWord) (turned .anyone State.reset))).map
    (fun s => ((s.entry 5).state, (s.entry 5).identity, s.attention, s.notices.map fun q => q.notice.body)) =
    some (.present, some 0x51C3, 0x004, [.welcome 0x51C3 16 4]) := by decide +kernel
theorem test_limits_write : (after (exec (.limitsWrite (writeOf 1 [0x14])) State.reset)).map State.limitsWord =
    some 0xFFFF4014 := by decide +kernel
theorem test_attn_en_write : (after (exec (.registerWrite 0x10 (.whole (writeOf 2 [0xDD, 0x01]))) State.reset)).map State.attnEn =
    some 0x1DD := by decide +kernel
theorem test_request_grant : (after (exec .request (messaged (.request (asking 1 65535 false)) State.reset))).map
    (fun t => (t.notices.map fun q => q.notice.body)) = some [.grant 10 1 0 65535] := by decide +kernel
theorem test_frame_zero_open : (after (exec (.frameStart ⟨[], [], 0, 0⟩) (framed .running .zeroBegun State.reset))).map
    (fun t => (t.fg.counter, t.uplink.turn)) = some (50, some .anyone) := by decide +kernel
theorem test_guard_after_vacate : ((after (exec .ownerUntilVacate (reacting { Due.nothing with vacate := true }
    (withSlot 10 ⟨some 0, some 50, none, none, false⟩ (framed .running .inFrame State.reset))))).bind (State.slotAt 10)) =
    some ⟨none, none, none, some 51, false⟩ := by decide +kernel

/-- Frame `now` + 1 starts with the configuration `d`: lease `l` of positions 20 and 21 and its end notice `b`. -/
def ending (now : Frame) (d : BitVec 4) (l : Lease) (b : NoticeBody) : State :=
  let s := framedAt now .running .between State.reset
  noticed b (some 0) false none (withSlot 20 ⟨some 0, none, none, none, false⟩ (withLease 0 { l with start := 20 }
    (s.setSettings { s.settings with d := d })))

/-- An OPEN lease from frame 0, a move of it sent with effect frame `m`. -/
def moved (m : Frame) : Lease :=
  { sampleLease with state := .ending, startFrame := some 0, move := some ⟨10, some m⟩ }

/-- With D = 3 the MOVE was sent in frame 65532, with effect frame 65535, and the RELEASED is sent in 65533: the old run keeps
the effect frame of the MOVE, though the end frame is numbered 0 (05, R96; 06, R118). -/
theorem test_old_run_keeps_effect_frame :
    ((after (exec (.frameStart ⟨[], [], 0, 0⟩) (ending 65532 3 (moved 65535) (.released 0 .holderRelease)))).map fun s =>
      ((s.slotAt 20).map Slot.ownerUntil, (s.leaseAt 0).map Lease.endFrame)) = some (some (some 65535), some (some 0)) := by
  decide +kernel

/-- With D = 7 a MOVE sent in frame 65529 was given up for the term end at 65534: that end stands, and the old run takes it
(06, R118). -/
theorem test_old_run_takes_term_end :
    ((after (exec (.frameStart ⟨[], [], 0, 0⟩) (ending 65530 7 { moved 0 with term := 65534, endFrame := some 65534 }
      (.revoked 0 .hostRevoke)))).map fun s => ((s.slotAt 20).map Slot.ownerUntil, (s.leaseAt 0).map Lease.endAnnounced)) =
      some (some (some 65534), some false) := by decide +kernel

/-- Twelve messages and fourteen notices wait. The notice sent makes the head message ready; taken before the queue is read, it
leaves UPLINK_OPEN set, and taken after it does not (03, R57). -/
def brimming : State :=
  let s := (enrolled 5 .present (framed .running .between State.reset)).setNotices
    (List.replicate 14 ⟨⟨0, none, false, .expired .expired⟩, none, false, false, none, false⟩)
  s.setRequests ((List.range 12).map fun k => ⟨Fin.ofNat 30 (k + 5), .withdraw, false, 0⟩)

theorem test_item_before_the_read : brimming.quiet ∧ brimming.frameFollows ∧
    (after (exec (.frameStart ⟨[], [], 0, 0⟩) brimming)).map (fun s => (s.uplink.uplinkOpen, s.requests.length)) = some (some false, 12) ∧
    (after (exec (.frameStart ⟨[], [.item], 0, 1⟩) brimming)).map (fun s => (s.uplink.uplinkOpen, s.requests.length)) = some (some true, 11) := by
  decide +kernel

/-- A RESTART among the items leaves no marker (06, R124). -/
theorem test_restart_before_the_read :
    [⟨[], [.item], 0, 1⟩, ⟨[.item], [], 0, 0⟩, ⟨[.item], [], 0, 1⟩].all (fun order =>
      (after (exec (.frameStart order) (commanded 0x5A 0 0 (framed .running .between State.reset)))).any fun s =>
        decide (s.fg.state = .stopped ∧ s.fg.marker = none ∧ s.uplink.turn = none)) = true := by decide +kernel

/-- Twelve messages and no notice wait, the head a RENEW of a lease that its sender does not hold. Its REFUSE is sent in the same
frame only where the item comes before the sending (03, R50); the read of the queue may come before that item or after it. -/
def answering : State :=
  brimming.setNotices [] |>.setRequests
    ((List.range 12).map fun k => ⟨Fin.ofNat 30 (k + 5), .renew ⟨0, 2⟩ 1, false, 0⟩)

theorem test_item_before_the_sending : answering.quiet ∧ answering.frameFollows ∧
    ([(⟨[], [.item], 0, 1⟩, some 0, some true, 1), (⟨[.item], [], 0, 0⟩, some 7, some false, 0), (⟨[.item], [], 0, 1⟩, some 7, some true, 0)].all
      fun (x : FrameOrder × Option Nat × Option Bool × Nat) => (after (exec (.frameStart x.1) answering)).any fun s =>
        decide (s.fg.downlink.map (fun d => (d.extractLsb' 60 4).toNat) = x.2.1 ∧ s.uplink.uplinkOpen = x.2.2.1 ∧
          s.notices.length = x.2.2.2 ∧ s.requests.length = 11)) = true := by decide +kernel

/-- One item taken in the frame begun, and the notice that it queued stands first to be sent. -/
theorem test_items_taken : State.StepsTaken [.item] answering.begun (stepped [.item] answering) ∧
    (stepped [.item] answering).fg.phase = .inFrame ∧
    ((stepped [.item] answering).notices.dropWhile (QueuedNotice.runsOut answering.newFrame)).head?.map
      (fun q => q.notice.body.kind) = some 7 :=
  ⟨(State.stepsTaken_iff _ _ _).2 rfl, by decide +kernel, by decide +kernel⟩

/-- A read takes its register's value at the address; bytes beyond four read 0 (10, R184). -/
theorem test_port_read : ((State.reset.phaseKept 0x00 6).portReadAddress 0x2C).map
      (fun x => [x.byte 0, x.byte 3, x.byte 4, x.byte 6]) = some [0x10, 0x54, 0, 0] ∧
    State.reset.portReadAddress 0x2D = none := by decide +kernel

/-- A view of position 10 written while its vacate is due shows it still owned; in the middle of the slot map unit's frame start
it shows position 10 as that leaves it (10, R195; notes/assumptions/3.md). -/
theorem test_view_between_events :
    (after (exec (.viewSelectWrite (writeOf 2 [1, 10])) (reacting { Due.nothing with vacate := true }
      (withSlot 10 ⟨some 0, some 50, none, none, false⟩ (framed .running .inFrame State.reset))))).map
        (fun s => (s.port.viewSelect, s.port.view0, s.port.view1)) = some (0xA01, 0x80080025, 0x00000032) ∧
    (after (exec (.viewSelectWrite (writeOf 2 [1, 10])) (reacting { Due.nothing with guardEnd := true, goLive := true }
      (withSlot 10 ⟨none, none, none, some 50, false⟩ (framed .running .inFrame State.reset))))).map
        (fun s => (s.port.viewSelect, s.port.view0, s.port.view1)) = some (0xA01, 0x80000000, 0) := by decide +kernel

/-! ### Transactions in progress (10, R183-R185) -/

/-- The port's events, one after the other. -/
def ported (events : List PortEvent) (s : State) : State := events.foldl (fun x e => x.portEvent 0x20 e) s

/-- A write to ARG0 in pieces takes effect at its last counted byte; a STOP, a START or a power-on reset before it leaves ARG0
as it was, and what is not acknowledged is let pass. -/
theorem test_write_in_pieces :
    (ported [.begun (writeOf 2 [1]), .bytes [2, 9], .bytes [7], .stop] State.reset).port.arg0 = 0x0201 ∧
    (ported [.begun (writeOf 2 [1])] State.reset).port.transaction = .receiving 0x20 2 [1] ∧
    ([[.begun (writeOf 2 [1]), .stop, .bytes [2]], [.begun (writeOf 2 [1]), .readAddress 0x2C, .bytes [2]],
      [.begun (writeOf 2 [1]), .begun (writeOf 1 []), .stop], [.begun (writeOf 5 []), .bytes [1, 2, 3, 4, 5]],
      [.begun ⟨0x2D, 2, []⟩, .bytes [1, 2]]].all fun l => decide ((ported l State.reset).port.arg0 = 0)) = true ∧
    (after (exec (.powerOnReset 0) (ported [.begun (writeOf 2 [1])] State.reset))).map (fun s => s.port.transaction) =
      some .idle := by decide +kernel

/-- A read of IDENT sends its low count bytes and then zeros while the host acknowledges; RESTART leaves it in progress, and a
power-on reset ends it and releases SDA. -/
theorem test_read_in_pieces :
    (let s := ported [.begun (writeOf 4 []), .readAddress 0x2C] (State.reset.phaseKept 0x00 2)
     s.port.transaction = .sending ⟨0, 4⟩ 0) ∧
    (let s := ported [.readAddress 0x2C] ((commanded 0x5A 0 0 State.reset).phaseKept 0x00 2)
     s.portSends = some 0x10 ∧ (ported [.answer true] s).portSends = some 0x64 ∧
      (ported [.answer true, .answer true] s).portSends = some 0 ∧ (ported [.answer true, .answer false] s).portSends = none ∧
      (ported [.answer true] s).port.transaction = .sending ⟨0x54016410, 2⟩ 1 ∧
      (after (exec .restart s)).map (fun t => t.port) = some s.port ∧
      (after (exec (.powerOnReset 0) s)).map State.portSends = some none) := by decide +kernel

/-- A read between a frame start and its reactions shows the records before them, and a limit already reached is applied first
(notes/assumptions/32.md). -/
theorem test_read_between_events :
    (let s := (reacting { Due.nothing with vacate := true, waits := true } ((framed .running .inFrame State.reset).setDeferred
      [{ waiting 5 0 with waitUntil := 50 }])).phaseKept 0x08 4
     (ported [.readAddress 0x2C] s).port.transaction = .sending ⟨0x00020001, 4⟩ 0 ∧
      (ported [.readAddress 0x2C] s).due = s.due) ∧
    (let t := ported [.readAddress 0x2C] ((reacting { Due.nothing with missed := some (5, .silent) } (enrolled 5 .present
      (framed .running .inFrame State.reset))).phaseKept 0x0C 2)
     t.due = Due.nothing ∧ t.port.transaction = .sending ⟨t.attention.setWidth 32, 2⟩ 0) := by decide +kernel

/-! ### Engine items inside a frame start (03, R50) -/

/-- A REQUEST of one position waits, and the guard of position 10 ends in frame 51. -/
def guardEnding : State :=
  withSlot 10 ⟨none, none, none, some 51, false⟩ (framed .running .between (messaged (.request (asking 0 9 false)) State.reset))

/-- Where the notices queued say that the run starts. -/
def grantedAt (r : Machine.Result) : Option (List NoticeBody) := (after r).map fun s => s.notices.map fun q => q.notice.body

/-- An item after the sending comes before or after the slot map unit's frame start of the same frame, as a step of the frame
start or as a row after it. -/
theorem test_item_and_slot_map :
    grantedAt (exec (.frameStart ⟨[], [.item, .react .slotMap], 0, 0⟩) guardEnding) = some [.grant 11 0 0 9] ∧
    grantedAt (exec (.frameStart ⟨[], [.react .slotMap, .item], 0, 0⟩) guardEnding) = some [.grant 10 0 0 9] ∧
    (let s := guardEnding.frameStart ⟨[], [], 0, 0⟩
     s.hear.heard ∧ s.hear.due.vacate = true ∧ grantedAt (exec .request s) = some [.grant 11 0 0 9]) ∧
    (let s := guardEnding.frameStart ⟨[], [.react .slotMap], 0, 0⟩
     s.hear.heard ∧ grantedAt (exec .request s) = some [.grant 10 0 0 9]) := by decide +kernel

/-- A WITHDRAW waits, and the wait of its sender's deferred request runs out in frame 51: either comes first (04, R85). -/
theorem test_item_and_wait :
    (let s := (framed .running .between (messaged .withdraw State.reset)).setDeferred [{ waiting 5 0 with waitUntil := 51 }]
     grantedAt (exec (.frameStart ⟨[], [.item, .react .waits], 0, 0⟩) s) = some [.refuse .withdrawn 0] ∧
      (grantedAt (exec (.frameStart ⟨[], [.react .waits, .item], 0, 0⟩) s)).map List.head? =
        some (some (.refuse .waitExpired 0)) ∧
      grantedAt (exec .withdraw (s.frameStart ⟨[], [], 0, 0⟩)) = some [.refuse .withdrawn 0]) := by decide +kernel

/-- BAR of the one tributary that speaks comes before or after the choice of the turn, and before or after the sending. -/
theorem test_item_and_turn :
    ([(⟨[.item], [], 0, 0⟩, .owner 5), (⟨[.item], [], 1, 0⟩, .anyone), (⟨[], [.item], 0, 0⟩, .owner 5),
      (⟨[], [.item], 1, 0⟩, .anyone)].all fun (x : FrameOrder × Turn) =>
        (after (exec (.frameStart x.1) (commanded 0x06 6 0 (enrolled 5 .present
          (framed .running .between State.reset))))).any fun s =>
            decide (s.uplink.turn = some x.2 ∧ (s.entry 5).state = .barred)) = true := by decide +kernel

/-! ### The statements' hypotheses are met -/

theorem test_front_command : (State.reset.setPending [.compact]).pending = .compact :: [] ∧ State.reset.pending = [] ∧
    settlesFirst .haltComplete = true := by decide +kernel

theorem test_port_refuses : (writeOf 0 []).count.toNat = 0 ∧ 4 < (writeOf 5 []).count.toNat ∧
    (⟨0x2D, 1, [0]⟩ : PortWrite).device ≠ 0x2C + State.reset.port.straps.setWidth 7 ∧ (0x3E : Byte).toNat % 4 ≠ 0 ∧
    0x40 < (0x44 : Byte).toNat := by decide +kernel

/-- A transaction in progress at each boundary of its bytes, and none. -/
theorem test_transactions :
    (ported [.begun (writeOf 2 [1])] State.reset).port.transaction = .receiving 0x20 2 [1] ∧
    registerAt 0x20 = some .arg0 ∧ [(1 : Byte)].length + 0 < (2 : Byte).toNat ∧ (2 : Byte).toNat ≤ [(1 : Byte)].length + 1 ∧
    (ported [.begun (writeOf 2 [1, 3])] State.reset).port.transaction = .receiving 0x20 2 [1, 3] ∧
    (2 : Byte).toNat ≤ [(1 : Byte), 3].length ∧
    (ported [.begun (writeOf 2 [1]), .begun (writeOf 0 [])] State.reset).port.transaction = .ignored ∧
    State.reset.port.transaction = .idle ∧ registerAt State.reset.port.keptOffset = some .ident ∧
    (0x2C : BitVec 7) = 0x2C + State.reset.port.straps.setWidth 7 ∧ (0x2D : BitVec 7) ≠ 0x2C + State.reset.port.straps.setWidth 7 ∧
    (ported [.readAddress 0x2C] State.reset).port.transaction = .sending ⟨0x54016410, 4⟩ 0 ∧
    (reacting { Due.nothing with vacate := true, goLive := true } State.reset).due.vacate = true := by decide +kernel

theorem test_port_cut_short : (writeOf 4 [1, 2, 3]).device = 0x2C + State.reset.port.straps.setWidth 7 ∧
    (0x40 : Byte).toNat % 4 = 0 ∧ (0x40 : Byte).toNat ≤ 0x40 ∧ 1 ≤ (writeOf 4 [1, 2, 3]).count.toNat ∧
    (writeOf 4 [1, 2, 3]).count.toNat ≤ 4 ∧ (writeOf 4 [1, 2, 3]).data.length < (writeOf 4 [1, 2, 3]).count.toNat := by
  decide +kernel

theorem test_receives_one_and_four : State.reset.receives (writeOf 1 [0]) ∧ State.reset.receives (writeOf 4 [0, 1, 2, 3]) ∧
    (writeOf 1 [0]).frameRequest = 0 ∧ State.reset.quiet := by decide +kernel

/-- Boundaries of the tables: the last entry, and the first index past it. -/
theorem test_view_boundaries :
    (starting sampleLease ⟨some 0, some 50, none, none, false⟩).receives (writeOf 2 [1, 10]) ∧
    (31 : LeaseIdx).val = (31 : BitVec 6).toNat ∧ 32 ≤ (32 : BitVec 6).toNat ∧ (6 : BitVec 3).toNat = 6 ∧
    State.reset.leaseAt 31 = none ∧ (withLease 31 sampleLease State.reset).leaseAt 31 = some sampleLease ∧
    (9 : BitVec 6).toNat < 10 ∧ State.reset.slotAt (10 : BitVec 6).toNat = some Slot.free ∧
    State.reset.slotAt (63 : BitVec 6).toNat = some Slot.free ∧ (0 : BitVec 6).toNat = 0 ∧
    (0 : Trib).val + 1 = (1 : BitVec 6).toNat ∧ (29 : Trib).val + 1 = (30 : BitVec 6).toNat ∧ 31 ≤ (31 : BitVec 6).toNat ∧
    brimming.requests[(11 : BitVec 6).toNat]? = some ⟨16, .withdraw, false, 0⟩ ∧
    brimming.requests.length ≤ (12 : BitVec 6).toNat ∧
    (State.reset.setDeferred (eight 1)).deferred[(7 : BitVec 6).toNat]? = some (waiting 17 1) ∧
    (State.reset.setDeferred (eight 1)).deferred.length ≤ (8 : BitVec 6).toNat ∧
    (crowded State.reset).notices[(15 : BitVec 6).toNat]? =
      some ⟨⟨0, none, false, .expired .expired⟩, none, false, false, none, false⟩ ∧
    (crowded State.reset).notices.length ≤ (16 : BitVec 6).toNat := by decide +kernel

theorem test_command_write_states :
    (∀ st ∈ [CommandState.idle, .done, .accepted, .executing],
      (State.reset.setCmd { State.reset.cmd with state := st }).receives (writeOf 1 [5])) := by decide +kernel

theorem test_frame_requests_states : ∀ g ∈ [GenState.stopped, .running, .halting, .halted],
    ∀ ph ∈ [FramePhase.between, .zeroBegun, .inFrame],
      (framed g ph State.reset).receives (writeOf 1 [0]) ∧ (framed g ph State.reset).fg.state = g ∧
        (framed g ph State.reset).fg.phase = ph ∧ (framed g ph State.reset).quiet := by decide +kernel

theorem test_turn_is_open : (framedAt 55 .running .between State.reset).quiet ∧
    (framedAt 55 .running .between State.reset).frameFollows ∧
    (framed .halting .zeroBegun State.reset).frameFollows ∧ ¬ (framed .halting .between State.reset).frameFollows ∧
    ((framedAt 55 .running .between State.reset).fg.counter + 1).toNat %
      (framedAt 55 .running .between State.reset).settings.k.toNat = 0 ∧
    (∀ a, (framed .running .between State.reset).speaks a = false) := by decide +kernel

/-- Address 30 alone speaks and the turn pointer is 30. -/
def lastSpeaks : State := (enrolled 29 .silent (framed .running .between State.reset)).setTurnPointer 30

theorem test_turn_is_owned : lastSpeaks.quiet ∧ lastSpeaks.frameFollows ∧ lastSpeaks.newFrame.toNat %
    lastSpeaks.settings.k.toNat ≠ 0 ∧ lastSpeaks.speaks 29 = true ∧
    (∀ b, lastSpeaks.speaks b = true → (29 + 30 - min lastSpeaks.turnPointer 30) % 30 ≤
      (b.val + 30 - min lastSpeaks.turnPointer 30) % 30) := by decide +kernel

/-- A GRANT copy whose 9 frames have run out by frame 51, and one with a frame left. -/
def spent : QueuedNotice := naming (.grant 10 1 0 9) none false true (some 42)
def lasting : QueuedNotice := naming (.grant 10 1 0 9) none false true (some 43)

theorem test_sending_states : ([naming (.released 0 .holderRelease) (some 0) false false none,
      naming (.expired .expired) none false false none, naming (.renewed 9 true) none false true none,
      naming (.released 0 .holderRelease) none false true none, naming (.released 0 .holderRelease) none false true (some 51),
      naming (.released 0 .holderRelease) none false true (some 52), naming (.grant 10 1 0 9) none false true none,
      naming (.grant 10 1 0 9) none false true (some 52), naming (.grant 10 1 0 65535) none false true (some 42), lasting].all
        fun q => decide (sends [] (queued sampleLease [spent, q]) q [])) = true ∧
    (queued sampleLease [spent]).quiet ∧ (queued sampleLease [spent]).frameFollows ∧
    (stepped [] (queued sampleLease [spent])).notices.dropWhile (QueuedNotice.runsOut 51) = [] := by decide +kernel

/-- The wait of a deferred request runs out in frame 51: its REFUSE is sent in that frame only where the engine's reaction comes
first (notes/assumptions/4.md). -/
theorem test_reaction_before_the_sending :
    (let s := (queued sampleLease []).setDeferred [{ waiting 5 0 with waitUntil := 51 }]
     (stepped [] s).notices = [] ∧
      sends [.react .waits] s ⟨⟨5, none, false, .refuse .waitExpired 0⟩, none, false, false, none, false⟩ []) := by decide +kernel

/-- An answered RELEASED sent in frame 51 records effect frame 54 with the copy held and the copy queued; a recorded frame 51 has
come, 52 has not. -/
theorem test_sending_records :
    (let q := naming (.released 0 .holderRelease) (some 0) true false none
     let s := queued { sampleLease with state := .ending } [q, naming (.released 0 .holderRelease) none false true none]
     let held (e : Option Frame) (x : State) := { x.entry 5 with reply := some ⟨q.notice, e, false⟩ }
     let t := s.setRoster (((s.roster.set 5 (held none s)).set 6 (held (some 51) s)).set 7 (held (some 52) s))
     sends [] t q [naming (.released 0 .holderRelease) none false true none] ∧
      (after (exec (.frameStart ⟨[], [], 0, 0⟩) t)).map (fun x => (x.notices.map QueuedNotice.effect,
        ([5, 6, 7] : List Trib).map fun a => (x.entry a).reply.map fun c => (c.effect, c.come))) =
        some ([some 54], [some (some 54, false), some (some 51, true), some (some 52, false)])) := by decide +kernel

theorem test_grant_sent :
    (let l := { sampleLease with state := .announcing, startFrame := none }
     let q := naming (.grant 10 1 0 9) (some 0) true false none
     sends [] (queued l [spent, q]) q [] ∧ (stepped [] (queued l [spent, q])).leaseAt 0 = some l ∧
      sends [.react .waits] (queued l [q]) q [] ∧ (stepped [.react .waits] (queued l [q])).leaseAt 0 = some l) := by decide +kernel

/-- The offsets of the end frames 53, 54 and 55 of a lease that started in 40, against a notice sent in 51 with D = 3. -/
theorem test_end_notice_clauses : (53 - 40 : Frame).toNat < (51 - 40 : Frame).toNat + 3 ∧
    (54 - 40 : Frame).toNat = (51 - 40 : Frame).toNat + 3 ∧ (51 - 40 : Frame).toNat + 3 < (55 - 40 : Frame).toNat ∧
    ([none, some 53, some 54, some 55].all fun e =>
      let q := naming (.revoked 0 .hostRevoke) (some 0) false false none
      [none, some ⟨10, none⟩, some ⟨10, some 52⟩].all fun m =>
        let l := { sampleLease with endFrame := e, start := 20, move := m }
        decide (sends [] (queued l [q]) q [] ∧ (stepped [] (queued l [q])).leaseAt 0 = some l)) = true := by decide +kernel

/-- Lease 0 on positions 20 and 21, with a move to 10 and 11 announced but not sent, and end frame `e`; `u` is the old run's
owner-until. -/
def moving (e u : Option Frame) : State :=
  let l := { sampleLease with endFrame := e, start := 20, move := some ⟨10, none⟩ }
  (queued l [naming (.move 10 0) (some 0) false false none]).mapSlots fun p x =>
    if p = 20 ∨ p = 21 then ⟨some 0, u, none, none, false⟩
    else if p = 10 ∨ p = 11 then ⟨none, none, some ⟨0, none, u⟩, none, false⟩ else x

theorem test_move_sent_clauses : ([none, some 55, some 54].all fun e =>
      decide (sends [] (moving e none) (naming (.move 10 0) (some 0) false false none) [] ∧
        (stepped [] (moving e none)).leaseAt 0 =
          some { sampleLease with endFrame := e, start := 20, move := some ⟨10, none⟩ } ∧
        (stepped [] (moving e none)).slotAt 20 = some ⟨some 0, none, none, none, false⟩)) = true ∧
    (51 - 40 : Frame).toNat + 3 < (55 - 40 : Frame).toNat ∧ (54 - 40 : Frame).toNat ≤ (51 - 40 : Frame).toNat + 3 := by
  decide +kernel

/-- The old run is vacated at the frame start of the sending, before it: the target given up leaves the lease no position, and it
is retired (notes/assumptions/9.md). -/
theorem test_move_sent_after_vacate :
    (let b := stepped [.react .slotMap] (moving (some 51) (some 51))
     sends [.react .slotMap] (moving (some 51) (some 51)) (naming (.move 10 0) (some 0) false false none) [] ∧
      b.leaseAt 0 = some { sampleLease with endFrame := some 51, start := 20, move := some ⟨10, none⟩ } ∧
      b.slots.cells.all (fun x => decide (x.owner ≠ some 0)) = true ∧
      (after (exec (.frameStart ⟨[.react .slotMap], [], 0, 0⟩) (moving (some 51) (some 51)))).map
        (fun t => (t.leases.get 0, t.notices.map fun q => q.notice.body)) =
        some (⟨3, some .expired, none⟩, [.expired .expired])) := by decide +kernel

/-- The term of lease 0, whose move is UNSENT, ends in frame 51, which has begun with the steps listed; `x` waits. -/
def termEnding (steps : List FrameStep) (x : State → State) : State :=
  stepped steps (x (withLease 0 { sampleLease with term := 11, endFrame := some 51, start := 20, move := some ⟨10, none⟩ }
    (moving (some 51) (some 51))))

/-- Lease 0 is gone, EXPIRED, and the notices queued have the bodies listed. -/
def lapsed (r : Machine.Result) (bodies : List NoticeBody) : Bool := (after r).any fun t =>
  decide (t.leases.get 0 = ⟨3, some .expired, none⟩ ∧ (t.notices.map fun q => q.notice.body) = bodies ∧ t.slotAt 10 = some Slot.free)

/-- Whichever reaction comes first, an item after it finds the lease gone (05, R93, R95, R98, R105). -/
theorem test_items_after_term_end : ([FrameReaction.slotMap, .moveEnds].all fun r =>
      lapsed (exec .renew (termEnding [.react r] (messaged (.renew ⟨0, 2⟩ 1)))) [.expired .expired, .refuse .badHandle 0] &&
      lapsed (.next (termEnding [.react r, .item] (messaged (.release ⟨0, 2⟩)))) [.expired .expired, .refuse .badHandle 0] &&
      lapsed (exec .revoke (termEnding [.react r] (commanded 0x04 0x02 0))) [.expired .expired] &&
      decide ((after (exec .revoke (termEnding [.react r] (commanded 0x04 0x02 0)))).map (fun t => t.cmd.result.code) =
        some .badHandle)) = true := by decide +kernel

/-- An item before both finds the lease with its move, and neither reaction then ends a renewed lease (05, R93). -/
theorem test_items_before_term_end :
    ([[FrameReaction.slotMap, .moveEnds], [.moveEnds, .slotMap]].all fun rs =>
      let t := termEnding (.item :: rs.map .react) (messaged (.renew ⟨0, 2⟩ 1))
      decide (t.leaseAt 0 =
        some { sampleLease with term := 12, endFrame := some 52, start := 20, move := some ⟨10, none⟩ }) &&
      decide ((t.notices.map fun q => q.notice.body) = [.move 10 0, .renewed 52 false])) = true := by decide +kernel

theorem test_owner_vacates : (starting sampleLease ⟨some 0, some 50, none, none, false⟩).due.vacate = true ∧
    (starting sampleLease ⟨some 0, some 50, none, none, false⟩).slotAt 10 = some ⟨some 0, some 50, none, none, false⟩ ∧
    (50 - 50 : Frame).toNat < 32768 ∧ 32768 ≤ (50 - 51 : Frame).toNat ∧
    (after (exec .ownerUntilVacate (starting sampleLease ⟨some 0, some 50, none, none, false⟩))).any (fun t =>
      t.slots.cells.all fun x => decide (x.owner ≠ some 0) && decide (x.incoming.map Incoming.lease ≠ some 0)) = true := by
  decide +kernel

/-- Lease 0 of one position, whose owner-until comes. -/
def lastFrame (l : Lease) : State :=
  holding 5 1 1 (starting { l with cls := 0 } ⟨some 0, some 50, none, none, false⟩)

/-- The vacate of the last position leaves the entry FREE with the reason given, the holder with no lease, deferred-reconsider
set, and the notices and ATTENTION as given. -/
def told (s : State) (why : EndReason) (notices : Nat) (attention : BitVec 10) : Bool :=
  (after (exec .ownerUntilVacate s)).any fun t => decide (t.leases.get 0 = ⟨3, some why, none⟩ ∧
    t.notices.length = notices ∧ t.attention = attention ∧ t.engine.reconsider = true ∧ (t.entry 5).leasesHeld = 0)

/-- The holder is told of the term's end, or NOTICE_DROP is set where sixteen notices wait; an end announced before is not told
again (01, R20; 05, R99). -/
theorem test_full_vacate : told (lastFrame sampleLease) .expired 1 0 = true ∧
    told (crowded (lastFrame sampleLease)) .expired 16 0x080 = true ∧
    told (lastFrame { sampleLease with state := .ending, endReason := some .hostRevoke, endAnnounced := true }) .hostRevoke 0 0 =
      true := by decide +kernel

theorem test_reactions_due :
    ((starting sampleLease Slot.free).setDue { Due.nothing with guardEnd := true }).due.vacate = false ∧
    ((starting sampleLease Slot.free).setDue { Due.nothing with guardEnd := true }).due.guardEnd = true ∧
    (starting sampleLease Slot.free).due.untils = true ∧ (starting sampleLease Slot.free).due.moveEnds = true ∧
    (starting sampleLease Slot.free).due.waits = true := by decide +kernel

/-- A lease of one position goes live on position 10. -/
def entering (l : Lease) : State :=
  (starting { l with cls := 0 } ⟨none, none, some ⟨0, some 50, none⟩, none, false⟩).setDue { Due.nothing with goLive := true }

theorem test_incoming_enters : (entering sampleLease).due.vacate = false ∧ (entering sampleLease).due.guardEnd = false ∧
    (entering sampleLease).due.goLive = true ∧
    (entering sampleLease).slotAt 10 = some ⟨none, none, some ⟨0, some 50, none⟩, none, false⟩ ∧
    (after (exec .incomingGoLive (entering sampleLease))).any (fun t => t.ownsRun 0 10 0) = true ∧
    (after (exec .incomingGoLive (entering { sampleLease with start := 12 }))).any (fun t => t.ownsRun 0 12 0) = false := by
  decide +kernel

/-- The go-live leaves the lease on the run from position 10 with the end frame and announcement given, and position 10 with the
owner-until given. -/
def entered (l : Lease) (e : Option Frame) (named : Bool) (u : Option Frame) : Bool :=
  (after (exec .incomingGoLive (entering l))).any fun t =>
    ((t.leaseAt 0).any fun x => decide (x.start = 10 ∧ x.endFrame = e ∧ x.endAnnounced = named)) &&
      ((t.slotAt 10).any fun x => decide (x.ownerUntil = u))

/-- An ENDING lease with its announced end in frame 60, and the term given. -/
def announced (term : BitVec 16) : Lease :=
  { sampleLease with state := .ending, term := term, endFrame := some 60, endAnnounced := true }

/-- An ENDING lease takes its term's end where that is earlier, and a move's target becomes the run; an end frame in range is
written as until where the lease goes live. -/
theorem test_go_live_clauses : entered (announced 19) (some 59) false (some 59) = true ∧
    entered (announced 20) (some 60) true (some 60) = true ∧
    entered { sampleLease with start := 20, move := some ⟨10, some 50⟩ } none false none = true ∧
    entered { sampleLease with state := .pending, term := 40000 } (some 40040) false none = true := by decide +kernel

/-- The worker waits for the move of lease 0. -/
def awaiting (moves : Nat) (s : State) : State := s.setWorker ⟨.active .wait, 10, some ⟨0, 2⟩, moves⟩

/-- The worker's move overtaken by the full vacate of its lease, and its 255th and a later one completed (05, R111, R112). -/
theorem test_worker_clauses :
    (after (exec .ownerUntilVacate (awaiting 3 (lastFrame sampleLease)))).map State.worker =
      some ⟨.active .step, 11, none, 3⟩ ∧
    ([254, 255].all fun n => decide ((after (exec .incomingGoLive
      (awaiting n (entering { sampleLease with start := 20, move := some ⟨10, some 50⟩ })))).map State.worker =
        some ⟨.active .step, 10, none, 255⟩)) = true := by decide +kernel

theorem test_until_in_range : (starting { sampleLease with endFrame := some (50 + 32767) } ⟨some 0, none, none, none,
      false⟩).leaseAt 0 = some { sampleLease with endFrame := some (50 + 32767) } ∧
    ((50 + 32767 : Frame) - 50).toNat = 32767 ∧
    (let l := { sampleLease with endFrame := some (50 + 32767), move := some ⟨20, some 50⟩ }
     (starting l ⟨some 0, none, none, none, false⟩).leaseAt 0 = some l) := by decide +kernel

theorem test_unsent_move_ends : ∀ x ∈ [(⟨some 0, none, none, none, false⟩ : Slot), Slot.free],
    (starting { sampleLease with endFrame := some 50, start := 20, move := some ⟨10, none⟩ } x).leaseAt 0 =
      some { sampleLease with endFrame := some 50, start := 20, move := some ⟨10, none⟩ } ∧
    ((50 - 40 : Frame)).toNat ≤ (50 - 40 : Frame).toNat := by decide +kernel

/-- Frame 50 is the end frame of lease 0, whose UNSENT move to 10 and 11 is under the worker's move; `x` is the record of
positions 20 and 21. -/
def endingMove (x : Slot) : State :=
  let l := { sampleLease with endFrame := some 50, start := 20, move := some ⟨10, none⟩ }
  let s := holding 5 2 1 (awaiting 3 (reacting { Due.nothing with moveEnds := true }
    (withLease 0 l (framed .running .inFrame State.reset))))
  let mapped := s.mapSlots fun p y => if p = 20 ∨ p = 21 then x
    else if p = 10 ∨ p = 11 then ⟨none, none, some ⟨0, none, none⟩, none, false⟩ else y
  mapped.setNotices [naming (.move 10 0) (some 0) false false none]

/-- The worker is overtaken and the target freed; a lease that keeps its old run lives on, and one that holds no position ends
EXPIRED, told where a notice fits (05, R105, R112; 01, R20, R22). -/
def moveEnded (s : State) (e : LeaseEntry) (notices : Nat) (attention : BitVec 10) (leases : Nat) : Bool :=
  (after (exec .moveTermEndRemoval s)).any fun t => decide (t.leases.get 0 = e ∧ t.notices.length = notices ∧
    t.attention = attention ∧ (t.entry 5).leasesHeld = leases ∧ t.worker = ⟨.active .step, 21, none, 3⟩ ∧
    t.engine.stepReady = true ∧ t.engine.reconsider = true ∧ t.slotAt 10 = some Slot.free)

theorem test_unsent_move_outcomes :
    moveEnded (endingMove ⟨some 0, none, none, none, false⟩)
      ⟨2, none, some { sampleLease with endFrame := some 50, start := 20 }⟩ 0 0 1 = true ∧
    moveEnded (endingMove Slot.free) ⟨3, some .expired, none⟩ 1 0 0 = true ∧
    moveEnded (crowded (endingMove Slot.free)) ⟨3, some .expired, none⟩ 16 0x080 0 = true := by decide +kernel

/-- Frame 50 is the turn of address 6, whose entry is in the state given with `n` missed turns. -/
def addressed (st : RosterState) (n : Nat) : State :=
  let s := enrolled 5 st (turned (.owner 5) State.reset)
  s.setEntry 5 { s.entry 5 with missed := n }

theorem test_turn_outcomes : (∀ st ∈ [RosterState.present, .silent], (addressed st 3).quiet ∧ (addressed st 3).speaks 5 = true ∧
      (addressed st 3).fg.phase = .inFrame ∧ (addressed st 3).uplink.received = none ∧
      (addressed st 3).uplink.turn = some (.owner 5)) ∧
    (addressed .leaving 8).speaks 5 = false ∧
    (∀ k ∈ ([0, 1, 2, 9, 15] : List (BitVec 4)), (parseUplink (spoken k 6 false 0 0)).good = true ∧
      (parseUplink (spoken k 6 false 0 0)).sender = Trib.wire 5 ∧ (parseUplink (spoken k 6 false 0 0)).kind = k) ∧
    (parseUplink 0).good = false ∧ (parseUplink (spoken 1 7 false 0 0)).sender ≠ Trib.wire 5 := by decide +kernel

theorem test_missed_limits : (addressed .present 3).settings.m.toNat ≤ 3 + 1 ∧
    3 + 1 < 2 * (addressed .present 3).settings.m.toNat ∧ 2 * (addressed .silent 7).settings.m.toNat ≤ 7 + 1 ∧
    2 + 1 < (addressed .present 2).settings.m.toNat ∧
    (reacting { Due.nothing with missed := some (5, .silent) } State.reset).due.missed = some (5, .silent) ∧
    (reacting { Due.nothing with missed := some (5, .leaving) } State.reset).due.missed = some (5, .leaving) := by
  decide +kernel

theorem test_open_turn_discards : (turned .anyone State.reset).quiet ∧ (turned .anyone State.reset).fg.phase = .inFrame ∧
    (turned .anyone State.reset).uplink.turn = some .anyone ∧ (parseUplink 0).good = false ∧
    (parseUplink (spoken 1 6 false 0 0)).kind ≠ 2 ∧ (parseUplink (spoken 2 0 false 0 0)).sender = 0 ∧
    (parseUplink (spoken 2 31 false 0 0)).sender = 31 ∧ (parseUplink (spoken 2 6 false 0 0)).arg.extractLsb' 14 16 = 0 ∧
    State.reset.fg.phase ≠ .inFrame := by decide +kernel

theorem test_join_hypotheses : (parseUplink joinWord).good = true ∧ (parseUplink joinWord).kind = 2 ∧
    (parseUplink joinWord).sender = Trib.wire 5 ∧ (parseUplink joinWord).arg.extractLsb' 14 16 = 0x51C3 ∧
    (∀ st ∈ [RosterState.absent, .present, .silent, .leaving, .barred],
      (enrolled 5 st (turned .anyone State.reset)).quiet ∧ ((enrolled 5 st (turned .anyone State.reset)).entry 5).state = st ∧
      (enrolled 5 st (turned .anyone State.reset)).notices.length < 16 ∧
      16 ≤ (crowded (enrolled 5 st (turned .anyone State.reset))).notices.length ∧
      (crowded (enrolled 5 st (turned .anyone State.reset))).uplink.turn = some .anyone) := by decide +kernel

/-- The message with sequence bit 1 was answered before. -/
def repeated : State :=
  let s := addressed .present 0
  s.setEntry 5 { s.entry 5 with lastSeq := some true, reply := some ⟨⟨5, none, true, .refuse .quota 0⟩, none, false⟩ }

theorem test_owner_message_hypotheses : (parseUplink (spoken 5 6 true 0x3A 0)).sort = .engine (.renew ⟨7, 2⟩ 0) ∧
    (parseUplink (spoken 8 6 true 0 0)).sort = .engine .leave ∧
    (parseUplink (spoken 4 6 true 0 0)).sort = .engine .withdraw ∧ (parseUplink (spoken 4 6 true 0 0)).good = true ∧
    (parseUplink (spoken 4 6 true 0 0)).seq = true ∧ (addressed .present 0).uplink.uplinkOpen = some true ∧
    ((addressed .present 0).setUplink ⟨some (.owner 5), some false, none⟩).uplink.uplinkOpen ≠ some true ∧
    ((addressed .present 0).entry 5).lastSeq ≠ some true ∧
    (repeated.entry 5).lastSeq = some true ∧ repeated.quiet ∧ (repeated.entry 5).reply.isSome = true ∧
    ((addressed .present 0).setRequests [⟨5, .leave, false, 0⟩]).requests.any (fun r => decide (r.sender = 5)) = true ∧
    (addressed .present 0).requests.any (fun r => decide (r.sender = 5)) = false ∧
    (addressed .present 0).notices.length < 16 ∧ 16 ≤ (crowded (addressed .present 0)).notices.length := by decide +kernel

/-- Frame 50 in progress, lease 0 `l`, position 10 owned by it. -/
def claimed (l : Lease) : State := withSlot 10 ⟨some 0, none, none, none, false⟩ (withLease 0 l (framed .running .inFrame State.reset))

theorem test_claim_hypotheses : (claimed sampleLease).quiet ∧ (claimed sampleLease).fg.phase = .inFrame ∧
    (5 : Fin 64).val < 6 ∧ 6 ≤ (6 : Fin 64).val ∧ (9 : Fin 64).val < 10 ∧
    (claimed sampleLease).slotAt 10 = some ⟨some 0, none, none, none, false⟩ ∧
    (claimed sampleLease).slotAt 63 = some Slot.free ∧ (claimed sampleLease).leaseAt 0 = some sampleLease ∧
    sampleLease.holder = some 5 ∧ (claimed { sampleLease with holder := none, origin := .pin }).leaseAt 0 =
      some { sampleLease with holder := none, origin := .pin } ∧ State.reset.fg.phase ≠ .inFrame := by decide +kernel

theorem test_reclaim_hypotheses : ∀ r ∈ [EndReason.notTakenUp, .idle],
    (reacting { Due.nothing with reclaims := [(0, r)] } (claimed sampleLease)).due.reclaims = [(0, r)] ∧
    (reacting { Due.nothing with reclaims := [(0, r)] } (claimed sampleLease)).leaseAt 0 = some sampleLease := by
  decide +kernel

/-- The IDLE reclaim of lease 0 stands before the NOT_TAKEN_UP reclaim of lease 1: the later one's row makes both (09, R180). -/
def reclaiming (first second : EndReason) : State :=
  withLease 1 { sampleLease with start := 12 } (reacting { Due.nothing with reclaims := [(0, first), (1, second)] } (claimed sampleLease))

theorem test_reclaim_of_the_other_reason :
    (∃ x ∈ [((1 : LeaseIdx), EndReason.notTakenUp)], x.2 = .notTakenUp) ∧ (∃ x ∈ [((1 : LeaseIdx), EndReason.idle)], x.2 = .idle) ∧
    [(Instr.notTakenUpReclaim, reclaiming .idle .notTakenUp), (Instr.idleReclaim, reclaiming .notTakenUp .idle)].all
      (fun x => (after (exec x.1 x.2)).any fun t => decide (t.leaseAt 0 = none ∧ t.leaseAt 1 = none ∧ t.due.reclaims = [])) =
      true := by decide +kernel

/-- A reclaim of a lease whose GRANT is still its holder's reply copy forgets the copy, and a worker on it goes on (07, R149; 05,
R112); another lease's leaves both. -/
theorem test_reclaim_forgets_and_overtakes : [(0, true), (1, false)].all (fun (x : LeaseIdx × Bool) =>
    let s := awaiting 3 (reacting { Due.nothing with reclaims := [(x.1, .idle)] }
      (withLease 1 { sampleLease with start := 12 } (claimed sampleLease)))
    let copied := s.setEntry 5 { s.entry 5 with
      lastSeq := some true, reply := some ⟨⟨5, some ⟨0, 2⟩, true, .grant 10 1 0 9⟩, none, false⟩ }
    (after (exec .idleReclaim copied)).any fun t => decide ((t.entry 5).reply.isNone = x.2 ∧
      (t.entry 5).lastSeq.isNone = x.2 ∧ t.engine.stepReady = x.2 ∧ t.worker.underMove.isNone = x.2 ∧ t.engine.reconsider = true)) = true := by decide +kernel

/-- An UNSENT move removed by RELEASE or REVOKE, or given up at its sending, sets deferred-reconsider where a target position
became FREE (02, R39), and not where the quarantine flag keeps it from that; the worker's other move goes on. -/
theorem test_target_freed_reconsiders : [false, true].all (fun q =>
    let flag (s : State) : State := s.mapSlots fun p x => if p = 10 ∨ p = 11 then { x with quarantine := q } else x
    let s := awaiting 3 (enrolled 5 .present (flag (moving (some 54) none)))
    let busy := s.setWorker { s.worker with underMove := some ⟨7, 0⟩ }
    let sees (r : Machine.Result) : Bool := (after r).any fun t => decide (t.engine.reconsider = !q ∧
      t.engine.stepReady = false ∧ t.worker = busy.worker)
    sees (exec .release (busy.setRequests [⟨5, .release ⟨0, 2⟩, false, 0⟩])) &&
      sees (exec .revoke (commanded 0x04 0x02 0 busy)) &&
      sees (exec (.frameStart ⟨[], [], 0, 0⟩) busy)) = true := by decide +kernel

/-- Entries that go live leave an idle worker, and one that waits for another lease's move, as they are (05, R111). -/
theorem test_go_live_leaves_worker :
    [WorkerStatus.off, .active .wait].all (fun w =>
      let s := (entering { sampleLease with start := 20, move := some ⟨10, some 50⟩ }).setWorker ⟨w, 10, some ⟨7, 0⟩, 3⟩
      (after (exec .incomingGoLive s)).any fun t => decide (t.worker = s.worker ∧ t.engine = s.engine)) = true := by
  decide +kernel

/-- Address 30 has its holder-retirement flag set. -/
def flaggedLast : State :=
  State.reset.setEngine { State.reset.engine with retireFlags := State.reset.engine.retireFlags.set 29 true }

theorem test_arbiter_hypotheses : flaggedLast.engine.retireFlags.get 29 = true ∧
    (∀ b : Trib, b < 29 → flaggedLast.engine.retireFlags.get b = false) ∧
    (∀ a : Trib, State.reset.engine.retireFlags.get a = false) ∧
    (∀ r ∈ [Requester.bus, .management, .internal], (State.reset.served r).engine.lastServed = r) := by decide +kernel

theorem test_item_hypotheses : State.reset.nextWork.map State.reset.rowOfWork ≠ some .pin ∧ isItemRow .pin = true ∧
    (enrolled 5 .leaving (messaged .withdraw State.reset)).nextWork = some (.bus ⟨5, .withdraw, false, 0⟩) ∧
    (enrolled 5 .leaving (messaged .withdraw State.reset)).speaks 5 = false := by decide +kernel

theorem test_placement_hypotheses : State.reset.runFree 4 (posOf 48) = true ∧ State.reset.runFree 4 (posOf 47) = false := by
  decide +kernel

/-- Every entry of the lease table holds a lease. -/
def filled (s : State) : State := s.setLeases (Table.replicate 32 ⟨0, none, some sampleLease⟩)

/-- No position is FREE. -/
def flagged (s : State) : State := s.setSlots (Table.replicate 54 ⟨none, none, none, none, true⟩)

theorem test_request_refusals : (messaged (.request (asking 1 9 false)) State.reset).messageWaits
      ⟨5, .request (asking 1 9 false), false, 0⟩ ∧
    ((messaged (.request (asking 1 9 false)) State.reset).setDeferred [waiting 5 0]).messageWaits
      ⟨5, .request (asking 1 9 false), false, 0⟩ ∧
    (messaged (.request (asking 5 9 false)) State.reset).messageWaits ⟨5, .request (asking 5 9 false), false, 0⟩ ∧
    5 ≤ (asking 5 9 false).cls.toNat ∧
    (holding 5 15 0 (messaged (.request (asking 1 9 false)) State.reset)).messageWaits
      ⟨5, .request (asking 1 9 false), false, 0⟩ ∧
    ¬ ((holding 5 15 0 State.reset).entry 5).slotsHeld + 2 ^ 1 ≤ ((holding 5 15 0 State.reset).entry 5).slotQuota ∧
    (filled (messaged (.request (asking 1 9 false)) State.reset)).messageWaits ⟨5, .request (asking 1 9 false), false, 0⟩ ∧
    (filled (messaged (.request (asking 1 9 false)) State.reset)).freeEntry = none ∧
    (flagged (messaged (.request (asking 1 9 false)) State.reset)).messageWaits ⟨5, .request (asking 1 9 false), false, 0⟩ ∧
    (flagged (messaged (.request (asking 1 9 false)) State.reset)).placement 1 0 = none ∧
    (flagged (messaged (.request (asking 1 9 false)) State.reset)).candidates ⟨5, .request (asking 1 9 false), false, 0⟩ 2 1 =
      [] := by decide +kernel

theorem test_request_granted : (messaged (.request (asking 4 65535 false)) State.reset).messageWaits
      ⟨5, .request (asking 4 65535 false), false, 0⟩ ∧
    ((messaged (.request (asking 4 65535 false)) State.reset).entry 5).slotsHeld + 2 ^ 4 ≤ 16 ∧
    (messaged (.request (asking 4 65535 false)) State.reset).freeEntry = some 0 ∧
    (messaged (.request (asking 4 65535 false)) State.reset).placement 4 0 = some 16 := by decide +kernel

/-- Lease 3 of tributary 12 is the one candidate on positions 10 and 11, the rest of the bus is flagged. -/
def preempting : State :=
  let s := withLease 3 { sampleLease with holder := some 11 } (flagged (messaged (.request (asking 1 9 false)) State.reset))
  (s.mapSlots fun p x => if p < 12 then ⟨some 3, none, none, none, false⟩ else x).setSettings
    { s.settings with preemptEn := true }

theorem test_preemption : preempting.messageWaits ⟨5, .request (asking 1 9 false), false, 0⟩ ∧
    preempting.freeEntry = some 0 ∧ preempting.placement 1 0 = none ∧ preempting.settings.preemptEn = true ∧
    preempting.leaseAt 3 = some { sampleLease with holder := some 11 } ∧
    (∀ x ∈ preempting.runSlots 10 1, x.quarantine = false) ∧
    (∀ j, (preempting.leaseAt j).isSome = true → j = 3) ∧
    preempting.candidates ⟨5, .request (asking 1 9 false), false, 0⟩ 2 1 = [(3, { sampleLease with holder := some 11 })] := by
  decide +kernel

/-- A deferring REQUEST of priority 2 with no run FREE and the deferred list given. -/
def deferring (ds : List Deferred) : State := (flagged (messaged (.request (asking 1 9 true)) State.reset)).setDeferred ds

theorem test_deferral : (∀ ds ∈ [[], [waiting 9 2], [waiting 9 1], eight 1, eight 2],
      (deferring ds).messageWaits ⟨5, .request (asking 1 9 true), false, 0⟩ ∧ (∀ d ∈ (deferring ds).deferred, d.sender ≠ 5) ∧
      (deferring ds).placement 1 0 = none ∧ (deferring ds).settings.preemptEn = false) ∧
    (deferring (eight 1)).deferred.length = 8 ∧
    (∀ x ∈ (eight 1).getLast?, x.priority < 2) ∧ (∀ x ∈ (eight 2).getLast?, 2 ≤ x.priority) := by decide +kernel

theorem test_withdraw_and_query : (messaged .withdraw State.reset).messageWaits ⟨5, .withdraw, false, 0⟩ ∧
    ((messaged .withdraw State.reset).setDeferred [waiting 5 0]).messageWaits ⟨5, .withdraw, false, 0⟩ ∧
    (∀ h ∈ [(⟨0, 2⟩ : Handle), ⟨0, 1⟩, ⟨31, 0⟩], (withLease 0 sampleLease (messaged (.query h) State.reset)).messageWaits
      ⟨5, .query h, false, 0⟩) ∧
    (withLease 0 sampleLease State.reset).leaseAt 0 = some sampleLease ∧
    ((withLease 0 sampleLease State.reset).leases.get 0).generation = 2 ∧
    (withLease 0 { sampleLease with holder := some 6 } (messaged (.query ⟨0, 2⟩) State.reset)).messageWaits
      ⟨5, .query ⟨0, 2⟩, false, 0⟩ := by decide +kernel

/-- Leases that RENEW, RELEASE and REVOKE meet. -/
def leaseForms : List Lease :=
  [{ sampleLease with holder := some 6 }, { sampleLease with state := .ending }, { sampleLease with state := .announcing },
    { sampleLease with state := .pending, term := 9 }, { sampleLease with term := 9, endFrame := some 49 },
    { sampleLease with move := some ⟨10, none⟩ }, { sampleLease with term := 9, move := some ⟨10, some 60⟩ }]

theorem test_renew_and_release : ∀ l ∈ leaseForms,
    (withLease 0 l (messaged (.renew ⟨0, 2⟩ 1) State.reset)).messageWaits ⟨5, .renew ⟨0, 2⟩ 1, false, 0⟩ ∧
    (withLease 0 l (messaged (.release ⟨0, 2⟩) State.reset)).messageWaits ⟨5, .release ⟨0, 2⟩, false, 0⟩ ∧
    (withLease 0 l (messaged (.release ⟨0, 2⟩) State.reset)).leaseAt 0 = some l ∧
    (withLease 0 l (commanded 0x04 0x02 0 State.reset)).commandWaits .revoke ∧
    (withLease 0 l (commanded 0x04 0x02 0 State.reset)).leaseAt (handleOfWire 0x02).index = some l ∧
    ((withLease 0 l State.reset).leases.get 0).generation = (handleOfWire 0x02).generation ∧
    (withLease 0 l (commanded 0x04 0x03 0 State.reset)).commandWaits .revoke := by decide +kernel

theorem test_holder_removals : (messaged .leave State.reset).messageWaits ⟨5, .leave, false, 0⟩ ∧
    (State.reset.setEngine { State.reset.engine with retireFlags := State.reset.engine.retireFlags.set 0 true }).nextWork =
      some (.retirement 0) ∧
    (∀ st ∈ [RosterState.present, .silent, .leaving], (enrolled 29 st (commanded 0x08 30 0 State.reset)).commandWaits .evict ∧
      ((enrolled 29 st (commanded 0x08 30 0 State.reset)).entry 29).state = st) ∧
    argAddress 30 = some 29 ∧ (commanded 0x06 1 0 State.reset).commandWaits .bar ∧ argAddress 1 = some 0 ∧
    ((commanded 0x06 1 0 State.reset).entry 0).state ≠ .barred := by decide +kernel

/-- A LEAVE of the holder of the lease under the worker's move overtakes the move and sets deferred-reconsider; of a holder with
no lease it leaves both as they were (05, R112; 03, R53). -/
theorem test_removal_overtakes_worker :
    (after (exec .leave (awaiting 3 (withLease 0 sampleLease (messaged .leave State.reset))))).any (fun t =>
      decide (t.worker = ⟨.active .step, 11, none, 3⟩ ∧ t.engine.stepReady = true ∧ t.engine.reconsider = true)) = true ∧
    (after (exec .leave (awaiting 3 (messaged .leave State.reset)))).any (fun t =>
      decide (t.worker = ⟨.active .wait, 10, some ⟨0, 2⟩, 3⟩ ∧ t.engine.stepReady = false ∧ t.engine.reconsider = false)) =
      true := by decide +kernel

/-- LEAVE of a holder takes with its lease the REFUSE NOT_HOLDER that names the lease to another tributary; one that names another
handle stays (notes/assumptions/33.md). -/
theorem test_removal_and_notices_to_others :
    (let told (h : Handle) : QueuedNotice := ⟨⟨8, some h, true, .refuse .notHolder 0⟩, none, false, false, none, false⟩
     (after (exec .leave ((withLease 0 sampleLease (messaged .leave State.reset)).setNotices [told ⟨0, 2⟩, told ⟨1, 2⟩]))).map
       State.notices = some [told ⟨1, 2⟩]) := by decide +kernel

/-- The worker in STEP and lease 0 on positions 20 and 21. -/
def compacting (l : Lease) : State :=
  let s := withLease 0 l State.reset
  (s.setWorker ⟨.active .step, 10, none, 0⟩).setEngine { s.engine with stepReady := true }

theorem test_compaction : (compacting { sampleLease with start := 20 }).quiet ∧
    (compacting { sampleLease with start := 20 }).nextWork = some .compaction ∧
    (compacting { sampleLease with start := 20 }).leaseAt 0 = some { sampleLease with start := 20 } ∧
    (10 : Pos) < 20 ∧ (compacting { sampleLease with start := 20 }).runFree 1 10 = true ∧
    (∀ q : Pos, q < 10 → (compacting { sampleLease with start := 20 }).runFree 1 q = false) ∧
    (∀ j, (compacting { sampleLease with start := 20 }).leaseAt j ≠ none → j = 0) ∧
    (compacting { sampleLease with state := .ending }).nextWork = some .compaction ∧
    (∀ j, ((compacting { sampleLease with state := .ending }).leaseAt j).any (fun l => decide (l.state = .active)) = false) := by
  decide +kernel

/-- One deferred request of tributary 6. -/
def reconsidering (st : RosterState) : State :=
  let s := (enrolled 5 st State.reset).setDeferred [waiting 5 0]
  s.setEngine { s.engine with reconsider := true }

theorem test_reconsideration : (reconsidering .present).quiet ∧ (reconsidering .present).nextWork = some .reconsider ∧
    (reconsidering .present).speaks 5 = true ∧ (reconsidering .present).freeEntry = some 0 ∧
    (reconsidering .present).placement 1 0 = some 10 ∧ 32768 ≤ ((reconsidering .present).counter - 64).toNat ∧
    (reconsidering .leaving).nextWork = some .reconsider ∧ (reconsidering .leaving).speaks 5 = false := by decide +kernel

theorem test_pin_hypotheses : (([0x500, 0x009, 0x10B, 0x23E, 0x010, 0x430] : List Word).all fun a =>
      decide ((commanded 0x01 a 0 State.reset).commandWaits .pin)) = true ∧
    State.reset.runFree 4 48 = true ∧ State.reset.freeEntry = some 0 ∧
    (flagged State.reset).runFree 4 48 = false ∧ (flagged (commanded 0x01 0x430 0 State.reset)).commandWaits .pin ∧
    (filled State.reset).freeEntry = none ∧ (filled (commanded 0x01 0x430 0 State.reset)).commandWaits .pin := by decide +kernel

theorem test_unpin_hypotheses : (∀ l ∈ [sampleLease, { sampleLease with origin := .pin, holder := none }],
      (withLease 0 l (commanded 0x02 0x02 0 State.reset)).commandWaits .unpin ∧
      (withLease 0 l (commanded 0x02 0x02 0 State.reset)).leaseAt 0 = some l) ∧
    (withLease 0 sampleLease (commanded 0x02 0x03 0 State.reset)).commandWaits .unpin ∧
    (handleOfWire 0x03).generation ≠ 2 := by decide +kernel

/-- GRANT_TO to address 6, of class 1 and priority 2, with the start and term given. -/
def granting (start : BitVec 6) (term : BitVec 16) (s : State) : State :=
  commanded 0x03 (0x210006 ||| (start.setWidth 32 <<< 8)) (term.setWidth 32) (enrolled 5 .present s)

theorem test_grant_to_hypotheses : (([0, 9, 11, 10, 62] : List (BitVec 6)).all fun w =>
      decide ((granting w 1 State.reset).commandWaits .grantTo ∧
        (granting w 1 State.reset).cmd.arg0.extractLsb' 0 5 = Trib.wire 5 ∧
        (granting w 1 State.reset).cmd.arg0.extractLsb' 8 6 = w ∧
        (granting w 1 State.reset).cmd.arg0.extractLsb' 16 3 = (1 : BitVec 3) ∧
        (granting w 1 State.reset).cmd.arg1.extractLsb' 0 16 = (1 : BitVec 16))) = true ∧
    (granting 0 0 State.reset).commandWaits .grantTo ∧
    (granting 0 1 State.reset).freeEntry = some 0 ∧ (granting 0 1 State.reset).placement 1 0 = some 10 ∧
    (granting 62 1 State.reset).runFree 1 62 = true ∧ (enrolled 5 .silent (granting 0 1 State.reset)).commandWaits .grantTo ∧
    (holding 5 15 0 (granting 0 1 State.reset)).commandWaits .grantTo ∧ (filled (granting 0 1 State.reset)).freeEntry = none ∧
    (flagged (granting 0 1 State.reset)).placement 1 0 = none ∧ (flagged (granting 62 1 State.reset)).runFree 1 62 = false := by
  decide +kernel

theorem test_roster_command_hypotheses : (([0, 31, 0x11F00, 0x13706, 0x93606, 0x83606, 0x10006] : List Word).all fun a =>
      decide ((commanded 0x05 a 0 State.reset).commandWaits .setQuota)) = true ∧
    ((0x83606 : Word).extractLsb' 8 6).toNat = 54 ∧ ((0x83606 : Word).extractLsb' 16 4).toNat = 8 ∧
    (holding 5 1 1 (commanded 0x05 0x10006 0 State.reset)).commandWaits .setQuota ∧
    (∀ st ∈ [RosterState.absent, .present, .barred],
      (enrolled 5 st (commanded 0x06 6 0 State.reset)).commandWaits .bar ∧
      (enrolled 5 st (commanded 0x07 6 0 State.reset)).commandWaits .unbar ∧
      (enrolled 5 st (commanded 0x08 6 0 State.reset)).commandWaits .evict) := by decide +kernel

theorem test_other_command_hypotheses : (([0x0A0B, 0x3F09, 0x0A0A, 0x3F0A] : List Word).all fun a =>
      decide ((commanded 0x09 a 0 State.reset).commandWaits .clearQ)) = true ∧
    (∀ w ∈ [WorkerStatus.off, .active .step, .active .wait],
      ((commanded 0x0A 0 0 State.reset).setWorker ⟨w, 10, none, 0⟩).commandWaits .compact ∧
      ((commanded 0x0B 0 0 State.reset).setWorker ⟨w, 10, none, 0⟩).commandWaits .compactAbort ∧
      ((commanded 0x5A 0 0 State.reset).setWorker ⟨w, 10, none, 0⟩).commandWaits .restart) ∧
    (commanded 0x0C 0 0 State.reset).commandWaits .flushDeferred ∧
    (([0x00, 0x0D, 0x59, 0x5B, 0xFF] : List Byte).all fun b =>
      decide ((commanded b 0 0 State.reset).nextWork = some .command)) = true := by
  decide +kernel

/-- A start request waits, and a pin is latched: the state that the invariants' witnesses step from. -/
def starter : State := (commanded 0x01 0x430 0 State.reset).setPending [.startRequest (writeOf 1 [1])]

theorem test_step_answers : ∃ t, step starter = .next t ∧ t.fg.state = .running := ⟨_, rfl, by decide +kernel⟩

theorem test_queue_law_met : starter.QueueLaw := by unfold State.QueueLaw; decide +kernel
theorem test_worker_law_met : starter.WorkerLaw := by unfold State.WorkerLaw; decide +kernel
theorem test_generator_law_met : starter.GeneratorLaw := by unfold State.GeneratorLaw; decide +kernel
theorem test_port_law_met : starter.PortLaw := by
  refine ⟨by decide, by decide, by decide, ?_⟩
  intro o c d h
  exact absurd h (by simp [starter, commanded, State.reset])
theorem test_port_law_receiving : (ported [.begun (writeOf 2 [1, 3, 5])] State.reset).PortLaw := by
  refine ⟨by decide, by decide, by decide, ?_⟩
  intro o c d h
  have e : (ported [.begun (writeOf 2 [1, 3, 5])] State.reset).port.transaction = .receiving 0x20 2 [1, 3] := by
    decide +kernel
  rw [e] at h
  cases h
  decide
theorem test_settings_law_met : starter.SettingsLaw := by unfold State.SettingsLaw; decide +kernel
theorem test_holdings_counts_met : ∀ t : Trib, (starter.entry t).leasesHeld = (starter.leasesOf t).length ∧
    (starter.entry t).slotsHeld = starter.slotsOf t ∧ (starter.leasesOf t).isEmpty = true := by decide +kernel
theorem test_no_lease_met : ∀ i, starter.leaseAt i = none := by decide +kernel

theorem test_slot_law_met : starter.SlotLaw := by
  intro x hx
  have h : x = Slot.free := List.eq_of_mem_replicate hx
  subst h
  simp [Slot.free]

theorem test_run_law_met : starter.RunLaw := by
  intro i l h
  rw [test_no_lease_met i] at h
  exact absurd h (by simp)

theorem test_holdings_law_met : starter.HoldingsLaw := by
  refine ⟨by decide +kernel, ?_, ?_⟩
  · intro i l h
    rw [test_no_lease_met i] at h
    exact absurd h (by simp)
  · intro t r h
    have h' : starter.due.missed = none := by decide +kernel
    rw [h'] at h
    exact absurd h (by simp)

end Sys2Proof.Tests
end

section
/-!
PROOFS. Power-on reset, and the lease table and the slot map that it leaves (01, R23; 02, R47).
-/
namespace Sys2Proof.Machine

/-- Power-on reset answers the reset state with the straps sampled (10, R183); of the state before it only the commands
that wait are kept (notes/assumptions/2.md). -/
theorem exec_powerOnReset (straps : BitVec 2) (s : State) :
    exec (.powerOnReset straps) s =
      .next ((State.reset.setPort { State.reset.port with straps := straps }).setPending s.pending) := rfl

namespace State

/-- The count of 01, R1 is 0 exactly when no entry holds a lease. -/
theorem entriesInUse_eq_zero_iff (s : State) : s.entriesInUse = 0 ↔ ∀ i, s.leaseAt i = none := by
  unfold entriesInUse leaseAt
  rw [List.countP_eq_zero]
  constructor
  · intro h i
    have hmem : s.leases.get i ∈ s.leases.cells := List.mem_of_getElem? (Table.get_eq_getElem? s.leases i)
    simpa using h _ hmem
  · intro h e he
    obtain ⟨k, hk, rfl⟩ := List.getElem_of_mem he
    have hfree : (s.leases.cells[k]).lease = none := h ⟨k, s.leases.size ▸ hk⟩
    simp [hfree]

/-- A leasable position's record is the slot map's at its place (02, R26). -/
theorem slotAt_eq_get (s : State) {p : Nat} (h : 10 ≤ p) (h' : p < 64) :
    s.slotAt p = some (s.slots.get ⟨p - 10, by omega⟩) := by
  have hleasable : ¬ p < Config.firstLeasable := Nat.not_lt.mpr h
  rw [slotAt, if_neg hleasable]
  exact Table.get_eq_getElem? s.slots ⟨p - 10, by omega⟩

/-- R23: no entry of the reset lease table holds a lease, or has a last end reason, and every generation is 0. -/
theorem leases_get_reset (i : LeaseIdx) : reset.leases.get i = ⟨0, none, none⟩ :=
  Table.get_replicate _ i

/-- R47: every position of the reset slot map is FREE. -/
theorem slots_get_reset (k : Fin 54) : reset.slots.get k = Slot.free :=
  Table.get_replicate _ k

end State

/-- Settles O4: power-on reset answers a state with the reset lease table and slot map, whose records are each read off
their tables. -/
theorem resetFreesLeasesAndPositions : Obligations.ResetFreesLeasesAndPositions := by
  intro straps s
  refine ⟨_, exec_powerOnReset straps s, ?entries, ?count, ?leasable, ?overhead, ?spaceFreed⟩
  case entries => exact State.leases_get_reset
  case count =>
    rw [State.entriesInUse_eq_zero_iff]
    exact fun i => congrArg LeaseEntry.lease (State.leases_get_reset i)
  case leasable =>
    intro p h h'
    rw [State.slotAt_eq_get _ h h']
    exact congrArg some (State.slots_get_reset _)
  case overhead => exact fun p h => State.slotAt_overhead _ h
  case spaceFreed => rfl

end Sys2Proof.Machine
end

section
/-!
PROOFS. The second step of a frame start: guards end, and space freed is reported (02, R31, R39).
-/
namespace Sys2Proof.Machine

/-- GUARD_END takes the second step where that is outstanding (02, R31). -/
theorem exec_guardEnd (s : State) : exec .guardEnd s = .next s.takeGuardEnd := rfl

/-- A position with no guard stays as it is. -/
theorem Slot.endGuard_of_unguarded {x : Slot} (now : Frame) (h : x.guardUntil = none) : x.endGuard now = x := by
  simp [endGuard, h]

/-- A guard ends once its guard-until has come (06, R118). -/
theorem Slot.endGuard_of_guarded {x : Slot} {g : Frame} (now : Frame) (h : x.guardUntil = some g) :
    x.endGuard now = if (now - g).toNat < 32768 then { x with guardUntil := none } else x := by
  simp [endGuard, h, come]

namespace State

variable (s : State)

/-- A report of space freed leaves the position records alone. -/
@[simp] theorem slotAt_noteSpaceFreed (before : Table Slot 54) (p : Nat) :
    (s.noteSpaceFreed before).slotAt p = s.slotAt p := by
  unfold slotAt
  rw [slots_noteSpaceFreed]

/-- R39: a change of the position records that reports space freed sets deferred-reconsider exactly where a position
became FREE. -/
theorem reconsider_mapSlots_noteSpaceFreed (f : Nat → Slot → Slot) :
    ((s.mapSlots f).noteSpaceFreed s.slots).engine.reconsider = true ↔ s.engine.reconsider = true ∨
      ∃ p x y, s.slotAt p = some x ∧ (s.mapSlots f).slotAt p = some y ∧ x.isFree = false ∧ y.isFree = true := by
  rw [noteSpaceFreed_form, engine_setEngine, engine_mapSlots, Bool.or_eq_true, someFreed_mapSlots]
  refine or_congr_right ⟨?freed, ?changed⟩
  case freed =>
    rintro ⟨p, x, hx, hbefore, hafter⟩
    exact ⟨p, x, f p x, hx, by rw [slotAt_mapSlots, hx, Option.map_some], hbefore, hafter⟩
  case changed =>
    rintro ⟨p, x, y, hx, hy, hbefore, hafter⟩
    rw [slotAt_mapSlots, hx, Option.map_some, Option.some.injEq] at hy
    exact ⟨p, x, hx, hbefore, hy ▸ hafter⟩

/-- The second step changes the slot map and the deferred-reconsider flag only. -/
theorem guardStep_frame : s.guardStep =
    (s.setSlots s.guardStep.slots).setEngine { s.engine with reconsider := s.guardStep.engine.reconsider } := by
  unfold guardStep
  rw [noteSpaceFreed_form]
  rfl

/-- R31: what the second step does to one position. -/
theorem slotAt_guardStep (p : Nat) : s.guardStep.slotAt p = (s.slotAt p).map (Slot.endGuard s.counter) := by
  rw [guardStep, slotAt_noteSpaceFreed, slotAt_mapSlots]

/-- R31, R39: the second step reports space freed exactly where a position became FREE. -/
theorem reconsider_guardStep : s.guardStep.engine.reconsider = true ↔ s.engine.reconsider = true ∨
    ∃ p x y, s.slotAt p = some x ∧ s.guardStep.slotAt p = some y ∧ x.isFree = false ∧ y.isFree = true := by
  simp only [guardStep, slotAt_noteSpaceFreed, reconsider_mapSlots_noteSpaceFreed]

variable {s} in
/-- With the vacates of the frame start taken, GUARD_END is the second step alone. -/
theorem takeGuardEnd_of_due (hv : s.due.vacate = false) (hg : s.due.guardEnd = true) :
    s.takeGuardEnd = (s.setDue { s.due with guardEnd := false }).guardStep := by
  simp [takeGuardEnd, takeVacate, hv, hg]

end State

/-- Settles O21: with the vacates taken, GUARD_END is the slot map unit's second step, whose frame, records and report
of space freed each have a lemma. -/
theorem guardsEndAtTheirUntil : Obligations.GuardsEndAtTheirUntil := by
  intro s hv hg
  refine ⟨(s.setDue { s.due with guardEnd := false }).guardStep,
    (exec_guardEnd s).trans (congrArg _ (State.takeGuardEnd_of_due hv hg)), ?frame, ?guards, ?spaceFreed⟩
  case frame => exact State.guardStep_frame _
  case guards =>
    intro p
    rw [State.slotAt_guardStep]
    refine congrArg (Option.map · (s.slotAt p)) (funext fun x => ?_)
    split
    · next g h => exact Slot.endGuard_of_guarded s.counter h
    · next h => exact Slot.endGuard_of_unguarded s.counter h
  case spaceFreed => exact State.reconsider_guardStep _

end Sys2Proof.Machine
end

section
/-!
PROOFS. The commands of the compaction worker and of the deferred list, and a code that names no command (05, R109, R113;
04, R87; 10, R192).
-/
namespace Sys2Proof.Machine

namespace State

/-- A reply that leaves the records as the taken command found them in `u` concludes the command there (10, R192, R193). -/
theorem finish_takeCommand (u : State) (c : ResultCode) (v : BitVec 16) :
    finish ⟨u.takeCommand, c, v⟩ = u.concluded c v := rfl

variable {s : State}

/-- The row of a command that waits takes it (10, R192; 11, R197). -/
theorem commandRow_of_commandWaits {c : CommandCode} (h : s.commandWaits c) (act : Word → Word → State → CommandReply) :
    s.commandRow c act = .next (finish (act s.cmd.arg0 s.cmd.arg1 s.takeCommand)) := by
  obtain ⟨hheard, hwork, hcode⟩ := h
  exact commandRow_waits hheard hwork hcode act

/-- COMPACT with the worker OFF starts it (05, R109). -/
theorem startWorker_takeCommand_of_off (h : s.worker.status = .off) :
    s.takeCommand.startWorker = ⟨((s.setWorker ⟨.active .step, 10, none, 0⟩).setEngine
      { s.engine with stepReady := true }).takeCommand, .ok, 0⟩ := by
  have h' : s.takeCommand.worker.status = .off := h
  rw [startWorker, h']
  rfl

/-- COMPACT with the worker ACTIVE leaves it as it is (05, R109). -/
theorem startWorker_takeCommand_of_active (h : s.worker.status ≠ .off) :
    s.takeCommand.startWorker = ⟨s.takeCommand, .wrongState, 0⟩ := by
  unfold startWorker
  split
  · next h' => exact absurd h' h
  · rfl

/-- COMPACT_ABORT with the worker ACTIVE stops it and raises COMPACT_END (05, R113). -/
theorem abortWorker_takeCommand_of_active (h : s.worker.status ≠ .off) :
    s.takeCommand.abortWorker = ⟨(((s.setWorker { s.worker with status := .off, underMove := none }).setEngine
      { s.engine with stepReady := false }).flagSet 0x020).takeCommand, .ok, 0⟩ := by
  unfold abortWorker
  split
  · next h' => exact absurd h' h
  · rfl

/-- COMPACT_ABORT with the worker OFF changes nothing (05, R113). -/
theorem abortWorker_takeCommand_of_off (h : s.worker.status = .off) :
    s.takeCommand.abortWorker = ⟨s.takeCommand, .wrongState, 0⟩ := by
  have h' : s.takeCommand.worker.status = .off := h
  rw [abortWorker, h']
  rfl

/-- FLUSH_DEFERRED marks every deferred entry, and its value is their number (04, R87). -/
theorem flushList_takeCommand (s : State) :
    s.takeCommand.flushList = ⟨(s.setDeferred (s.deferred.map fun d => { d with waitUntil := s.counter })).takeCommand,
      .ok, BitVec.ofNat 16 s.deferred.length⟩ := rfl

end State

variable {s : State}

/-- A COMPACT that waits is taken (05, R109). -/
theorem exec_compact_of_waits (h : s.commandWaits .compact) :
    exec .compact s = .next (State.finish s.takeCommand.startWorker) :=
  State.commandRow_of_commandWaits h _

/-- A COMPACT_ABORT that waits is taken (05, R113). -/
theorem exec_compactAbort_of_waits (h : s.commandWaits .compactAbort) :
    exec .compactAbort s = .next (State.finish s.takeCommand.abortWorker) :=
  State.commandRow_of_commandWaits h _

/-- A FLUSH_DEFERRED that waits is taken (04, R87). -/
theorem exec_flushDeferred_of_waits (h : s.commandWaits .flushDeferred) :
    exec .flushDeferred s = .next (State.finish s.takeCommand.flushList) :=
  State.commandRow_of_commandWaits h _

/-- UNKNOWN_COMMAND is the command item of every code that names no command (10, R192). -/
theorem exec_unknownCommand (s : State) : exec .unknownCommand s = execUnknownCommand s := rfl

/-- A latched code that names no command is taken, and changes nothing but the command unit (10, R192). -/
theorem exec_unknownCommand_of_waits (hheard : s.heard) (hwork : s.nextWork = some .command)
    (hcode : s.cmd.code ∉ commandCodes) : exec .unknownCommand s = .next (s.concluded .badArgument 0) := by
  have hmine : (!commandCodes.contains s.cmd.code) = true := by simpa using hcode
  rw [exec_unknownCommand, execUnknownCommand, State.hear_of_heard hheard, State.commandItem, if_pos ⟨hwork, hmine⟩,
    State.turnedAway, State.finish_takeCommand]

/-- Settles O52: a command that waits is taken, and what it makes of the records for each status of the worker is a lemma
of its own; each then concludes by `finish_takeCommand`. -/
theorem workerAndListCommandsAct : Obligations.WorkerAndListCommandsAct := by
  intro s
  refine ⟨fun h => ?compact, fun h => ?abort, fun h => ?flush, exec_unknownCommand_of_waits⟩
  case compact =>
    rw [exec_compact_of_waits h]
    constructor
    · intro hoff
      rw [State.startWorker_takeCommand_of_off hoff, State.finish_takeCommand]
    · intro hactive
      rw [State.startWorker_takeCommand_of_active hactive, State.finish_takeCommand]
  case abort =>
    rw [exec_compactAbort_of_waits h]
    constructor
    · intro hactive
      rw [State.abortWorker_takeCommand_of_active hactive, State.finish_takeCommand]
    · intro hoff
      rw [State.abortWorker_takeCommand_of_off hoff, State.finish_takeCommand]
  case flush =>
    rw [exec_flushDeferred_of_waits h, State.flushList_takeCommand, State.finish_takeCommand]

end Sys2Proof.Machine
end

section
/-!
PROOFS. The roster commands that remove no holder: SET_QUOTA, UNBAR, and what BAR and EVICT answer where they leave the
entry alone (11, R203-R206).
-/
namespace Sys2Proof.Machine

namespace State

/-- A refused command changes nothing but the command unit (10, R192, R193). -/
theorem finish_turnedAway_takeCommand (s : State) (c : ResultCode) :
    finish (s.takeCommand.turnedAway c) = s.concluded c 0 := rfl

/-- A command answered OK with value zero concludes in the records that it leaves (10, R192, R193). -/
theorem finish_ok_takeCommand (u : State) : finish u.takeCommand.ok = u.concluded .ok 0 := rfl

/-- Taking a command leaves the roster as it is. -/
@[simp] theorem entry_takeCommand (s : State) (t : Trib) : s.takeCommand.entry t = s.entry t := rfl

/-- A roster entry may be replaced before or after the command is taken. -/
theorem setEntry_takeCommand (s : State) (t : Trib) (e : RosterEntry) :
    s.takeCommand.setEntry t e = (s.setRoster (s.roster.set t e)).takeCommand := rfl

section Replies

variable {s : State} {a : Word} {t : Trib}

/-- SET_QUOTA refuses an address that names no tributary, and quotas outside their ranges (11, R203). -/
theorem setQuotas_of_badArgument (h : argAddress a = none ∨ 54 < (a.extractLsb' 8 6).toNat ∨
      (a.extractLsb' 16 4).toNat = 0 ∨ 8 < (a.extractLsb' 16 4).toNat) :
    s.setQuotas a = s.turnedAway .badArgument := by
  unfold setQuotas
  split
  · rfl
  · next hnamed => exact if_pos (h.resolve_left (by simp [hnamed]))

/-- SET_QUOTA of a tributary with quotas in their ranges compares them with what the entry holds (11, R203). -/
theorem setQuotas_of_inRange (ht : argAddress a = some t) (hslots : (a.extractLsb' 8 6).toNat ≤ 54)
    (hpos : 1 ≤ (a.extractLsb' 16 4).toNat) (hleases : (a.extractLsb' 16 4).toNat ≤ 8) :
    s.setQuotas a =
      if (a.extractLsb' 8 6).toNat < (s.entry t).slotsHeld ∨ (a.extractLsb' 16 4).toNat < (s.entry t).leasesHeld
      then s.turnedAway .overQuota
      else (s.setEntry t { s.entry t with
        slotQuota := (a.extractLsb' 8 6).toNat, leaseQuota := (a.extractLsb' 16 4).toNat }).ok := by
  have hrange : ¬ (54 < (a.extractLsb' 8 6).toNat ∨ (a.extractLsb' 16 4).toNat = 0 ∨
      8 < (a.extractLsb' 16 4).toNat) := by omega
  simp only [setQuotas, ht, if_neg hrange]

/-- BAR refuses an address that names no tributary (11, R204). -/
theorem barAddress_of_noAddress (h : argAddress a = none) : s.barAddress a = s.turnedAway .badArgument := by
  simp only [barAddress, h]

/-- BAR of a BARRED entry is OK and leaves it alone (11, R204). -/
theorem barAddress_of_barred (ht : argAddress a = some t) (h : (s.entry t).state = .barred) :
    s.barAddress a = s.ok := by
  simp only [barAddress, ht, if_pos h]

/-- UNBAR refuses an address that names no tributary (11, R205). -/
theorem unbarAddress_of_noAddress (h : argAddress a = none) : s.unbarAddress a = s.turnedAway .badArgument := by
  simp only [unbarAddress, h]

/-- UNBAR makes a BARRED entry ABSENT, and refuses any other (11, R205). -/
theorem unbarAddress_of_address (ht : argAddress a = some t) :
    s.unbarAddress a = if (s.entry t).state = .barred then (s.setEntry t { s.entry t with state := .absent }).ok
      else s.turnedAway .wrongState := by
  simp only [unbarAddress, ht]

/-- EVICT refuses an address that names no tributary (11, R206). -/
theorem evictAddress_of_noAddress (h : argAddress a = none) : s.evictAddress a = s.turnedAway .badArgument := by
  simp only [evictAddress, h]

/-- EVICT refuses an entry that is ABSENT or BARRED (11, R206). -/
theorem evictAddress_of_notJoined (ht : argAddress a = some t)
    (h : (s.entry t).state = .absent ∨ (s.entry t).state = .barred) : s.evictAddress a = s.turnedAway .wrongState := by
  rcases h with h | h <;> simp only [evictAddress, ht, h]

end Replies

end State

/-- An address field names no tributary exactly where it is 0 or 31 (07; 11, section 11.1). -/
theorem argAddress_eq_none_iff (a : Word) : argAddress a = none ↔ a.extractLsb' 0 5 = 0 ∨ a.extractLsb' 0 5 = 31 :=
  tribOf_none _

/-- An address field that holds a tributary's address names it. -/
theorem argAddress_of_wire {a : Word} {t : Trib} (h : a.extractLsb' 0 5 = Trib.wire t) : argAddress a = some t := by
  rw [argAddress, h, tribOf_wire]

section Rows

variable {s : State}

/-- A SET_QUOTA that waits is taken (11, R203). -/
theorem exec_setQuota_of_waits (h : s.commandWaits .setQuota) :
    exec .setQuota s = .next (State.finish (s.takeCommand.setQuotas s.cmd.arg0)) :=
  State.commandRow_of_commandWaits h _

/-- A BAR that waits is taken (11, R204). -/
theorem exec_bar_of_waits (h : s.commandWaits .bar) :
    exec .bar s = .next (State.finish (s.takeCommand.barAddress s.cmd.arg0)) :=
  State.commandRow_of_commandWaits h _

/-- An UNBAR that waits is taken (11, R205). -/
theorem exec_unbar_of_waits (h : s.commandWaits .unbar) :
    exec .unbar s = .next (State.finish (s.takeCommand.unbarAddress s.cmd.arg0)) :=
  State.commandRow_of_commandWaits h _

/-- An EVICT that waits is taken (11, R206). -/
theorem exec_evict_of_waits (h : s.commandWaits .evict) :
    exec .evict s = .next (State.finish (s.takeCommand.evictAddress s.cmd.arg0)) :=
  State.commandRow_of_commandWaits h _

end Rows

/-- Settles O50: a command that waits is taken, its reply in each case of its argument and of the entry is a lemma of its
own, and a reply that changes no record or one roster entry concludes in the state named. -/
theorem rosterCommandsActByEntry : Obligations.RosterCommandsActByEntry := by
  intro s addr slots leases
  refine ⟨fun hw hbad => ?quotaArgument, fun hw hbad => ?barArgument, fun hw hbad => ?unbarArgument,
    fun hw hbad => ?evictArgument, fun a haddr => ?named⟩
  case quotaArgument =>
    have hbad' : argAddress s.cmd.arg0 = none ∨ 54 < slots ∨ leases = 0 ∨ 8 < leases := by
      rw [argAddress_eq_none_iff, or_assoc]
      exact hbad
    rw [exec_setQuota_of_waits hw, State.setQuotas_of_badArgument hbad', State.finish_turnedAway_takeCommand]
  case barArgument =>
    rw [exec_bar_of_waits hw, State.barAddress_of_noAddress ((argAddress_eq_none_iff _).mpr hbad),
      State.finish_turnedAway_takeCommand]
  case unbarArgument =>
    rw [exec_unbar_of_waits hw, State.unbarAddress_of_noAddress ((argAddress_eq_none_iff _).mpr hbad),
      State.finish_turnedAway_takeCommand]
  case evictArgument =>
    rw [exec_evict_of_waits hw, State.evictAddress_of_noAddress ((argAddress_eq_none_iff _).mpr hbad),
      State.finish_turnedAway_takeCommand]
  case named =>
    have ht : argAddress s.cmd.arg0 = some a := argAddress_of_wire haddr
    refine ⟨fun hw hslots hpos hleases => ?quota, fun hw hbarred => ?bar, fun hw hother => ?unbarOther,
      fun hw hbarred => ?unbar, fun hw hgone => ?evict⟩
    case quota =>
      rw [exec_setQuota_of_waits hw, State.setQuotas_of_inRange ht hslots hpos hleases, State.entry_takeCommand]
      constructor
      · intro hover
        rw [if_pos hover, State.finish_turnedAway_takeCommand]
      · intro hs hl
        rw [if_neg (not_or.mpr ⟨Nat.not_lt.mpr hs, Nat.not_lt.mpr hl⟩), State.setEntry_takeCommand,
          State.finish_ok_takeCommand]
    case bar =>
      rw [exec_bar_of_waits hw, State.barAddress_of_barred (s := s.takeCommand) ht hbarred, State.finish_ok_takeCommand]
    case unbarOther =>
      rw [exec_unbar_of_waits hw, State.unbarAddress_of_address ht, State.entry_takeCommand, if_neg hother,
        State.finish_turnedAway_takeCommand]
    case unbar =>
      rw [exec_unbar_of_waits hw, State.unbarAddress_of_address ht, State.entry_takeCommand, if_pos hbarred,
        State.setEntry_takeCommand, State.finish_ok_takeCommand]
    case evict =>
      rw [exec_evict_of_waits hw, State.evictAddress_of_notJoined (s := s.takeCommand) ht hgone,
        State.finish_turnedAway_takeCommand]

end Sys2Proof.Machine
end

section
/-!
PROOFS. CLEAR_Q: the quarantine flags of a range cleared, and space freed reported (11, R207; 02, R39, R46).
-/
namespace Sys2Proof.Machine

/-- A position record after CLEAR_Q of the positions `first` to `last` (02, R46). -/
def Slot.clearFlag (first last p : Nat) (x : Slot) : Slot :=
  if first ≤ p ∧ p ≤ last then { x with quarantine := false } else x

namespace State

variable (s : State)

/-- A change of the position records that reports space freed changes the slot map and the deferred-reconsider flag
only (02, R39). -/
theorem mapSlots_noteSpaceFreed_frame (f : Nat → Slot → Slot) :
    (s.mapSlots f).noteSpaceFreed s.slots =
      (s.setSlots ((s.mapSlots f).noteSpaceFreed s.slots).slots).setEngine
        { s.engine with reconsider := ((s.mapSlots f).noteSpaceFreed s.slots).engine.reconsider } := by
  rw [noteSpaceFreed_form]
  rfl

/-- The position records may be changed, and space freed reported, before or after the command is taken. -/
theorem mapSlots_noteSpaceFreed_takeCommand (f : Nat → Slot → Slot) :
    (s.takeCommand.mapSlots f).noteSpaceFreed s.takeCommand.slots =
      ((s.mapSlots f).noteSpaceFreed s.slots).takeCommand := by
  simp only [noteSpaceFreed_form]
  rfl

variable {s} {a : Word}

/-- A command concluded leaves the position records as they are (10, R192). -/
theorem slotAt_concluded (s : State) (c : ResultCode) (v : BitVec 16) (p : Nat) :
    (s.concluded c v).slotAt p = s.slotAt p := rfl

/-- A command concluded leaves the deferred-reconsider flag as it is (10, R192). -/
theorem reconsider_concluded (s : State) (c : ResultCode) (v : BitVec 16) :
    (s.concluded c v).engine.reconsider = s.engine.reconsider := rfl

/-- CLEAR_Q refuses a range that is reversed or begins below position 10 (11, R207). -/
theorem clearQuarantine_of_badRange
    (h : (a.extractLsb' 8 6).toNat < (a.extractLsb' 0 6).toNat ∨ (a.extractLsb' 0 6).toNat < 10) :
    s.clearQuarantine a = s.turnedAway .badArgument := if_pos h

/-- CLEAR_Q of a range within 10-63 clears its flags and reports space freed (11, R207; 02, R46). -/
theorem clearQuarantine_of_range (h : 10 ≤ (a.extractLsb' 0 6).toNat)
    (h' : (a.extractLsb' 0 6).toNat ≤ (a.extractLsb' 8 6).toNat) :
    s.clearQuarantine a = ((s.mapSlots (Slot.clearFlag (a.extractLsb' 0 6).toNat
      (a.extractLsb' 8 6).toNat)).noteSpaceFreed s.slots).ok :=
  if_neg (not_or.mpr ⟨Nat.not_lt.mpr h', Nat.not_lt.mpr h⟩)

end State

/-- A CLEAR_Q that waits is taken (11, R207). -/
theorem exec_clearQ_of_waits {s : State} (h : s.commandWaits .clearQ) :
    exec .clearQ s = .next (State.finish (s.takeCommand.clearQuarantine s.cmd.arg0)) :=
  State.commandRow_of_commandWaits h _

/-- Settles O51: an accepted CLEAR_Q is one change of the position records that reports space freed, whose frame, records
and report each have a lemma. -/
theorem clearQuarantineFreesPositions : Obligations.ClearQuarantineFreesPositions := by
  intro s hw first last
  rw [exec_clearQ_of_waits hw]
  constructor
  · intro hbad
    rw [State.clearQuarantine_of_badRange hbad, State.finish_turnedAway_takeCommand]
  · intro hfirst hlast
    rw [State.clearQuarantine_of_range hfirst hlast, State.mapSlots_noteSpaceFreed_takeCommand,
      State.finish_ok_takeCommand]
    refine ⟨((s.mapSlots (Slot.clearFlag first last)).noteSpaceFreed s.slots).concluded .ok 0, rfl, ?frame, ?flags,
      ?spaceFreed⟩
    case frame => exact congrArg (State.concluded .ok 0) (State.mapSlots_noteSpaceFreed_frame s _)
    case flags =>
      intro p
      rw [State.slotAt_concluded, State.slotAt_noteSpaceFreed, State.slotAt_mapSlots]
      rfl
    case spaceFreed =>
      simp only [State.slotAt_concluded, State.reconsider_concluded, State.slotAt_noteSpaceFreed,
        State.reconsider_mapSlots_noteSpaceFreed]

end Sys2Proof.Machine
end

section
/-!
PROOFS. What the shared operations can do to the records, said once: `Change` lists the changes of the records that an
invariant speaks of, each with the fact that holds where the model makes it, and `Reach` is any number of them. Each
invariant is then one case split over `Change`.
-/
namespace Sys2Proof.Machine

/-- PRESENT, SILENT or LEAVING: a tributary that may hold leases (01, R4). -/
def RosterState.mayHold : RosterState → Bool
  | .present => true
  | .silent => true
  | .leaving => true
  | .absent => false
  | .barred => false

/-- The lease's run and the target of its move are aligned runs of its class (01, R5; 02, R27). -/
def Lease.RunOk (l : Lease) : Prop :=
  aligned l.cls l.start.val = true ∧ ∀ m, l.move = some m → aligned l.cls m.target.val = true

/-- What every update of a lease keeps: its holder, origin and class, and that its runs are aligned. -/
def Lease.Kept (l l' : Lease) : Prop :=
  l'.holder = l.holder ∧ l'.origin = l.origin ∧ l'.cls = l.cls ∧ (l.RunOk → l'.RunOk)

/-- An update that touches no run, holder, origin or class. -/
theorem Lease.Kept.of_eq {l l' : Lease} (hh : l'.holder = l.holder) (ho : l'.origin = l.origin)
    (hc : l'.cls = l.cls) (hs : l'.start = l.start)
    (hm : ∀ m', l'.move = some m' → ∃ m, l.move = some m ∧ m'.target = m.target) : l.Kept l' := by
  refine ⟨hh, ho, hc, fun ⟨h1, h2⟩ => ⟨by rw [hc, hs]; exact h1, fun m' hm' => ?_⟩⟩
  obtain ⟨m, hm1, hm2⟩ := hm m' hm'
  rw [hc, hm2]
  exact h2 m hm1

/-- An entry of the lease table that stays FREE, or whose lease is updated. -/
def LeaseKept (a b : Option Lease) : Prop := a = b ∨ ∃ l l', a = some l ∧ b = some l' ∧ l.Kept l'

namespace Slot

/-! ### What is written on a position record, said once -/

/-- The untils of a lease on a record (01, R10; 02, R36). -/
theorem writeUntil_eq (i : LeaseIdx) (a b : Option Frame) (x : Slot) : x.writeUntil i a b =
    { x with
      ownerUntil := if x.owner = some i then a else x.ownerUntil
      incoming := x.incoming.map fun n => if n.lease = i then { n with untilFrame := b } else n } := by
  obtain ⟨o, u, inc, g, q⟩ := x
  by_cases ho : o = some i <;> cases inc <;> simp [writeUntil, ownedBy, ho]
  all_goals split <;> simp

/-- The from-frame of a lease on a record (02, R36). -/
theorem writeFrom_eq (i : LeaseIdx) (f : Frame) (x : Slot) : x.writeFrom i f =
    { x with incoming := x.incoming.map fun n => if n.lease = i then { n with fromFrame := some f } else n } := by
  obtain ⟨o, u, inc, g, q⟩ := x
  cases inc <;> simp [writeFrom]
  split <;> simp

/-- The frames of a MOVE that goes ahead, on a record (05, R103). -/
theorem writeMove_eq (i : LeaseIdx) (f : Frame) (u : Option Frame) (x : Slot) : x.writeMove i f u =
    { x with
      ownerUntil := if x.owner = some i then some f else x.ownerUntil
      incoming := x.incoming.map fun n => if n.lease = i then ⟨i, some f, u⟩ else n } := by
  obtain ⟨o, u', inc, g, q⟩ := x
  by_cases ho : o = some i <;> cases inc <;> simp [writeMove, ownedBy, ho]
  all_goals split <;> simp

end Slot

namespace State

/-- A position record that is paired as R26 says and names only leases of the table (02, R26; 01, R22). -/
def RecordOk (s : State) (x : Slot) : Prop :=
  (x.guardUntil.isSome = true → x.owner = none) ∧ (x.ownerUntil.isSome = true → x.owner.isSome = true) ∧
    (∀ i, x.owner = some i → (s.leaseAt i).isSome = true) ∧
    (∀ e, x.incoming = some e → (s.leaseAt e.lease).isSome = true)

/-- An update of the entry of `t` that raises no held count: the counts stay, and the quotas stay or cover them; a holder
stays one unless nothing is held, and an owner whose missed turn is still to be judged still speaks (07, R134, R137). -/
structure EntryKept (s : State) (t : Trib) (e : RosterEntry) : Prop where
  slotsHeld : e.slotsHeld = (s.entry t).slotsHeld
  leasesHeld : e.leasesHeld = (s.entry t).leasesHeld
  slotQuota : e.slotQuota = (s.entry t).slotQuota ∨ (s.entry t).slotsHeld ≤ e.slotQuota
  leaseQuota : e.leaseQuota = (s.entry t).leaseQuota ∨ (s.entry t).leasesHeld ≤ e.leaseQuota
  holder : e.state = (s.entry t).state ∨ e.state.mayHold = true ∨ (s.entry t).state.mayHold = false ∨ s.leasesOf t = []
  speaker : e.state = (s.entry t).state ∨ e.state = .present ∨ e.state = .silent ∨ s.due.missed = none

/-- The roster after the lease `l` is retired: the holder's counts fall, and no quota or state changes (07, R134). -/
def HeldDropped (s : State) (l : Lease) (v : Table RosterEntry 30) : Prop :=
  ∀ t, (v.get t).slotsHeld = (if l.holder = some t then (s.entry t).slotsHeld - runLength l.cls else (s.entry t).slotsHeld) ∧
    (v.get t).leasesHeld = (if l.holder = some t then (s.entry t).leasesHeld - 1 else (s.entry t).leasesHeld) ∧
    (v.get t).slotQuota = (s.entry t).slotQuota ∧ (v.get t).leaseQuota = (s.entry t).leaseQuota ∧
    (v.get t).state = (s.entry t).state

/-- No position record names the lease. -/
def Unnamed (s : State) (i : LeaseIdx) : Prop :=
  ∀ p x, s.slotAt p = some x → x.owner ≠ some i ∧ x.incoming.map Incoming.lease ≠ some i

/-- One change of the records. The generator, the configuration and the port have laws of their own, which the change
keeps; the uplink receiver is only cleared here, and the request queue only gets shorter (see `UplinkStep`). -/
inductive Change (s : State) : State → Prop
  | fg (v : FrameGen) (h : s.GeneratorLaw → (s.setFg v).GeneratorLaw) : Change s (s.setFg v)
  | settings (v : Settings) (h : s.SettingsLaw → (s.setSettings v).SettingsLaw) : Change s (s.setSettings v)
  | port (v : Port) (h : s.PortLaw → (s.setPort v).PortLaw) : Change s (s.setPort v)
  | cmd (v : CommandUnit) : Change s (s.setCmd v)
  | attention (v : BitVec 10) : Change s (s.setAttention v)
  | attnEn (v : BitVec 10) : Change s (s.setAttnEn v)
  | credited (v : Table Bool 32) : Change s (s.setCredited v)
  | turnPointer (v : Nat) : Change s (s.setTurnPointer v)
  | uplinkCleared : Change s (s.setUplink ⟨none, none, none⟩)
  | engine (v : Engine) (h : v.stepReady = s.engine.stepReady) : Change s (s.setEngine v)
  | worker (w : Worker) (b : Bool) (hready : b = true ↔ w.status = .active .step)
      (hmove : w.underMove.isSome = true ↔ w.status = .active .wait) : Change s ((s.setWorker w).setStepReady b)
  | requests (l : List Request) (h : l.Sublist s.requests) : Change s (s.setRequests l)
  | deferred (l : List Deferred) (h : l.Sublist s.deferred) : Change s (s.setDeferred l)
  | deferredMarked (w : Frame) : Change s (s.setDeferred (s.deferred.map fun d => { d with waitUntil := w }))
  | deferredRanked (l : List Deferred) (d : Deferred) (h : l.Sublist s.deferred)
      (hlen : l.length < 8 ∨ l.length < s.deferred.length) (hd : ∀ x ∈ s.deferred, x.sender ≠ d.sender) :
      Change s (s.setDeferred (insertRanked d l))
  | notices (l : List QueuedNotice) (h : l.length ≤ 16 ∨ l.length ≤ s.notices.length) : Change s (s.setNotices l)
  | due (d : Due) (h : ∀ t r, d.missed = some (t, r) → s.due.missed = some (t, r) ∨ s.speaks t = true) :
      Change s (s.setDue d)
  | slots (f : Nat → Slot → Slot) (h : ∀ p x, s.slotAt p = some x → s.RecordOk x → s.RecordOk (f p x)) :
      Change s (s.mapSlots f)
  | roster (v : Table RosterEntry 30) (h : ∀ t, s.EntryKept t (v.get t)) : Change s (s.setRoster v)
  | leases (v : Table LeaseEntry 32) (h : ∀ i, LeaseKept (s.leaseAt i) (v.get i).lease) : Change s (s.setLeases v)
  | granted (i : LeaseIdx) (e : LeaseEntry) (l : Lease) (t : Trib) (hfree : s.leaseAt i = none) (he : e.lease = some l)
      (hholder : l.holder = some t) (horigin : l.origin ≠ .pin) (hquota : s.withinQuota t l.cls = true)
      (hstate : (s.entry t).state.mayHold = true) (hrun : s.RunLaw → l.RunOk) :
      Change s ((s.setLeases (s.leases.set i e)).addHeld t l.cls)
  | pinned (i : LeaseIdx) (e : LeaseEntry) (l : Lease) (hfree : s.leaseAt i = none) (he : e.lease = some l)
      (hholder : l.holder = none) (horigin : l.origin = .pin) (hrun : l.RunOk) :
      Change s (s.setLeases (s.leases.set i e))
  | freed (i : LeaseIdx) (l : Lease) (r : EndReason) (v : Table RosterEntry 30) (hl : s.leaseAt i = some l)
      (hnone : s.Unnamed i) (hheld : s.HeldDropped l v) : Change s ((s.freeLease i r).setRoster v)
  | restarted (h : s.due.missed = none) : Change s s.restartRecords

/-- Any number of changes. -/
def Reach : State → State → Prop := Relation.ReflTransGen Change

theorem Reach.refl (s : State) : Reach s s := Relation.ReflTransGen.refl

theorem Reach.trans {s t u : State} (h : Reach s t) (g : Reach t u) : Reach s u := Relation.ReflTransGen.trans h g

theorem Change.reach {s t : State} (h : Change s t) : Reach s t := Relation.ReflTransGen.single h

/-- What every change keeps holds of every state reached. -/
theorem Reach.keeps {P : State → Prop} (hP : ∀ s t, Change s t → P s → P t) {s t : State} (h : Reach s t) (hs : P s) :
    P t := by
  induction h with
  | refl => exact hs
  | tail _ hc ih => exact hP _ _ hc ih

/-- A fold of operations that each reach their result reaches its own. -/
theorem Reach.foldl {α : Type} {f : State → α → State} (h : ∀ s a, Reach s (f s a)) (l : List α) (s : State) :
    Reach s (l.foldl f s) := by
  induction l generalizing s with
  | nil => exact Reach.refl s
  | cons a as ih => exact (h s a).trans (ih _)

/-! ### Position records -/

/-- The law of the position records, position by position. -/
theorem slotLaw_iff (s : State) : s.SlotLaw ↔ ∀ p x, s.slotAt p = some x → s.RecordOk x := by
  constructor
  · intro h p x hx
    unfold slotAt at hx
    split at hx
    · exact absurd hx (by simp)
    · exact h x (List.mem_of_getElem? hx)
  · intro h x hx
    obtain ⟨k, hk, rfl⟩ := List.getElem_of_mem hx
    refine h (k + 10) _ ?_
    simp [slotAt, Config.firstLeasable, List.getElem?_eq_getElem hk]

section Records

variable {s : State} {x : Slot}

/-- A record keeps its owner and guard, its owner-until stays one of an owner, and its incoming entry, where it stays, names
the same lease. -/
theorem RecordOk.rewritten {a : Option Frame} {g : Incoming → Incoming} (ha : a.isSome = true → x.owner.isSome = true)
    (hg : ∀ n, (s.leaseAt n.lease).isSome = true → (s.leaseAt (g n).lease).isSome = true) (h : s.RecordOk x) :
    s.RecordOk { x with ownerUntil := a, incoming := x.incoming.map g } := by
  refine ⟨h.1, ha, h.2.2.1, fun e he => ?_⟩
  obtain ⟨n, hn, rfl⟩ := Option.map_eq_some_iff.mp he
  exact hg n (h.2.2.2 n hn)

theorem recordOk_dropIncoming (i : LeaseIdx) (h : s.RecordOk x) : s.RecordOk (x.dropIncoming i) := by
  obtain ⟨hg, hu, ho, hi⟩ := h
  unfold Slot.dropIncoming
  split
  · exact ⟨hg, hu, ho, fun e he => by simp at he⟩
  · exact ⟨hg, hu, ho, hi⟩

theorem recordOk_vacateNow (i : LeaseIdx) (g : Frame) (h : s.RecordOk x) : s.RecordOk (x.vacateNow i g) := by
  obtain ⟨hg, hu, ho, hi⟩ := h
  unfold Slot.vacateNow
  split
  · exact ⟨fun _ => rfl, fun hn => by simp at hn, fun j hj => by simp at hj, hi⟩
  · exact ⟨hg, hu, ho, hi⟩

/-- An owner-until is written on a record that the lease owns, or it stays. -/
theorem ownerUntil_written {i : LeaseIdx} {a : Option Frame} (h : s.RecordOk x)
    (ha : (if x.owner = some i then a else x.ownerUntil).isSome = true) : x.owner.isSome = true := by
  by_cases ho : x.owner = some i
  · simp [ho]
  · rw [if_neg ho] at ha
    exact h.2.1 ha

theorem recordOk_writeUntil (i : LeaseIdx) (a b : Option Frame) (h : s.RecordOk x) : s.RecordOk (x.writeUntil i a b) := by
  rw [Slot.writeUntil_eq]
  refine RecordOk.rewritten (ownerUntil_written h) (fun n hn => ?_) h
  split <;> exact hn

theorem recordOk_writeFrom (i : LeaseIdx) (f : Frame) (h : s.RecordOk x) : s.RecordOk (x.writeFrom i f) := by
  rw [Slot.writeFrom_eq]
  refine RecordOk.rewritten h.2.1 (fun n hn => ?_) h
  split <;> exact hn

theorem recordOk_writeMove (i : LeaseIdx) (f : Frame) (u : Option Frame) (h : s.RecordOk x) :
    s.RecordOk (x.writeMove i f u) := by
  rw [Slot.writeMove_eq]
  refine RecordOk.rewritten (ownerUntil_written h) (fun n hn => ?_) h
  split
  · next hni => exact hni ▸ hn
  · exact hn

theorem recordOk_vacateDue (now : Frame) (h : s.RecordOk x) : s.RecordOk (x.vacateDue now) := by
  obtain ⟨hg, hu, ho, hi⟩ := h
  unfold Slot.vacateDue
  split
  · split
    · exact ⟨fun _ => rfl, fun hn => by simp at hn, fun j hj => by simp at hj, hi⟩
    · exact ⟨hg, hu, ho, hi⟩
  · exact ⟨hg, hu, ho, hi⟩

theorem recordOk_endGuard (now : Frame) (h : s.RecordOk x) : s.RecordOk (x.endGuard now) := by
  obtain ⟨hg, hu, ho, hi⟩ := h
  unfold Slot.endGuard
  split
  · split
    · exact ⟨fun hn => by simp at hn, hu, ho, hi⟩
    · exact ⟨hg, hu, ho, hi⟩
  · exact ⟨hg, hu, ho, hi⟩

theorem recordOk_goLiveDue (now : Frame) (h : s.RecordOk x) : s.RecordOk (x.goLiveDue now) := by
  obtain ⟨hg, hu, ho, hi⟩ := h
  unfold Slot.goLiveDue
  split
  · next i f u he =>
    split
    · next hc =>
      refine ⟨fun hn => by simp [hc.2.2] at hn, fun _ => rfl, fun j hj => ?_, fun e he' => by simp at he'⟩
      simp only [Option.some.injEq] at hj
      subst hj
      exact hi _ he
    · exact ⟨hg, hu, ho, hi⟩
  · exact ⟨hg, hu, ho, hi⟩

theorem recordOk_incoming {i : LeaseIdx} (hl : (s.leaseAt i).isSome = true) (a b : Option Frame) (h : s.RecordOk x) :
    s.RecordOk { x with incoming := some ⟨i, a, b⟩ } := by
  obtain ⟨hg, hu, ho, -⟩ := h
  refine ⟨hg, hu, ho, fun e he => ?_⟩
  simp only [Option.some.injEq] at he
  subst he
  exact hl

theorem recordOk_quarantine (b : Bool) (h : s.RecordOk x) : s.RecordOk { x with quarantine := b } := h

end Records

/-! ### Entries and leases -/

/-- An entry whose counts, quotas and state are those held keeps the law of holdings. -/
theorem EntryKept.of_eq {s : State} {t : Trib} {e : RosterEntry} (hs : e.slotsHeld = (s.entry t).slotsHeld)
    (hl : e.leasesHeld = (s.entry t).leasesHeld) (hsq : e.slotQuota = (s.entry t).slotQuota)
    (hlq : e.leaseQuota = (s.entry t).leaseQuota) (hst : e.state = (s.entry t).state) : s.EntryKept t e :=
  ⟨hs, hl, .inl hsq, .inl hlq, .inl hst, .inl hst⟩

theorem LeaseKept_refl (a : Option Lease) : LeaseKept a a := .inl rfl

variable (s : State)

theorem reach_setEntry (t : Trib) (e : RosterEntry) (h : s.EntryKept t e) : Reach s (s.setEntry t e) := by
  refine (Change.roster _ fun u => ?_).reach
  by_cases hu : u = t
  · subst hu
    rw [Table.get_set_eq]
    exact h
  · rw [Table.get_set_ne _ _ hu]
    exact .of_eq rfl rfl rfl rfl rfl

theorem reach_setLease {i : LeaseIdx} {l : Lease} (l' : Lease) (hl : s.leaseAt i = some l) (h : l.Kept l') :
    Reach s (s.setLease i l') := by
  refine (Change.leases _ fun j => ?_).reach
  by_cases hj : j = i
  · subst hj
    rw [Table.get_set_eq]
    exact .inr ⟨l, l', hl, rfl, h⟩
  · rw [Table.get_set_ne _ _ hj]
    exact LeaseKept_refl _

end State
end Sys2Proof.Machine
end

section
/-!
PROOFS. What the shared operations, the reports between blocks and the sending reach (`Reach`).
-/
namespace Sys2Proof.Machine

/-- Going live changes the state and the end frame of a lease (01, R17). -/
theorem Lease.kept_live (l : Lease) : l.Kept l.live := by
  have h : l.live.holder = l.holder ∧ l.live.origin = l.origin ∧ l.live.cls = l.cls ∧ l.live.start = l.start ∧
      l.live.move = l.move := by
    unfold Lease.live
    repeat' split
    all_goals exact ⟨rfl, rfl, rfl, rfl, rfl⟩
  obtain ⟨h1, h2, h3, h4, h5⟩ := h
  exact .of_eq h1 h2 h3 h4 fun m hm => ⟨m, h5 ▸ hm, rfl⟩

/-- A sent end notice changes the end frame of a lease (01, R19). -/
theorem Lease.kept_fixEnd (now : Frame) (d : BitVec 4) (l : Lease) : l.Kept (l.fixEnd now d) := by
  have h : (l.fixEnd now d).holder = l.holder ∧ (l.fixEnd now d).origin = l.origin ∧ (l.fixEnd now d).cls = l.cls ∧
      (l.fixEnd now d).start = l.start ∧ (l.fixEnd now d).move = l.move := by
    unfold Lease.fixEnd
    dsimp only
    repeat' split
    all_goals exact ⟨rfl, rfl, rfl, rfl, rfl⟩
  obtain ⟨h1, h2, h3, h4, h5⟩ := h
  exact .of_eq h1 h2 h3 h4 fun m hm => ⟨m, h5 ▸ hm, rfl⟩

namespace State

variable (s : State)

/-! ### Flags, notices, position records -/

theorem reach_raise (c : Cause) : Reach s (s.raise c) := (Change.attention _).reach

theorem reach_raiseIf (b : Bool) (c : Cause) : Reach s (s.raiseIf b c) := by
  cases b
  · exact Reach.refl s
  · exact reach_raise s c

/-- An update of the engine's flags that leaves compaction-step-ready. -/
theorem reach_setEngine {v : Engine} (h : v.stepReady = s.engine.stepReady) : Reach s (s.setEngine v) :=
  (Change.engine v h).reach

theorem reach_setReconsider : Reach s s.setReconsider := reach_setEngine s rfl

theorem reach_serve (r : Requester) : Reach s (s.serve r) := reach_setEngine s rfl

theorem reach_setRetireFlag (t : Trib) (b : Bool) : Reach s (s.setRetireFlag t b) := reach_setEngine s rfl

theorem reach_noteSpaceFreed (b : Table Slot 54) : Reach s (s.noteSpaceFreed b) := by
  unfold noteSpaceFreed
  split
  · exact reach_setReconsider s
  · exact Reach.refl s

/-- A change of the position records that keeps each of them paired and naming leases. -/
theorem reach_mapSlots {f : Nat → Slot → Slot} (h : ∀ p x, s.slotAt p = some x → s.RecordOk x → s.RecordOk (f p x)) :
    Reach s (s.mapSlots f) := (Change.slots f h).reach

theorem reach_removeIncoming (i : LeaseIdx) : Reach s (s.removeIncoming i) :=
  (reach_mapSlots s fun _ _ _ => recordOk_dropIncoming i).trans (reach_noteSpaceFreed _ _)

theorem reach_vacateAtOnce (i : LeaseIdx) : Reach s (s.vacateAtOnce i) :=
  (reach_mapSlots s fun _ _ _ h => recordOk_dropIncoming i (recordOk_vacateNow i _ h)).trans (reach_noteSpaceFreed _ _)

variable {s} in
theorem reach_writeIncoming {i : LeaseIdx} (h : (s.leaseAt i).isSome = true) (start : Pos) (c : LenClass) :
    Reach s (s.writeIncoming i start c) := by
  refine reach_mapSlots s fun p x _ hx => ?_
  split
  · exact recordOk_incoming h none none hx
  · exact hx

theorem reach_submit (q : QueuedNotice) : Reach s (s.submit q) := by
  unfold submit
  split
  · next h =>
    refine (Change.notices _ (.inl ?_)).reach
    have h' : s.notices.length < 16 := h
    simp only [List.length_append, List.length_singleton]
    omega
  · exact reach_raise s _

theorem reach_inform (n : Notice) : Reach s (s.inform n) := reach_submit s _

theorem reach_announce (i : LeaseIdx) (n : Notice) : Reach s (s.announce i n) := reach_submit s _

/-- Notices that leave the queue. -/
theorem reach_filterNotices (p : QueuedNotice → Bool) : Reach s (s.setNotices (s.notices.filter p)) :=
  (Change.notices _ (.inr (List.length_filter_le _ _))).reach

/-- Messages that leave the request queue. -/
theorem reach_filterRequests (p : Request → Bool) : Reach s (s.setRequests (s.requests.filter p)) :=
  (Change.requests _ List.filter_sublist).reach

/-- Deferred requests that leave the list. -/
theorem reach_filterDeferred (p : Deferred → Bool) : Reach s (s.setDeferred (s.deferred.filter p)) :=
  (Change.deferred _ List.filter_sublist).reach

theorem reach_withdrawHandle (h : Handle) : Reach s (s.withdrawHandle h) := reach_filterNotices s _

theorem reach_withdrawAddress (t : Trib) : Reach s (s.withdrawAddress t) := reach_filterNotices s _

theorem reach_withdrawMove (i : LeaseIdx) : Reach s (s.withdrawMove i) := reach_filterNotices s _

/-! ### The roster and the answers -/

theorem reach_answer (k : Option LeaseIdx) (n : Notice) : Reach s (s.answer k n) :=
  (reach_submit s _).trans (reach_setEntry _ _ _ (.of_eq rfl rfl rfl rfl rfl))

theorem reach_refuse (t : Trib) (seq : Bool) (h : Option Handle) (r : RefusalReason) : Reach s (s.refuse t seq h r) :=
  reach_answer s _ _

/-! ### Leases -/

theorem reach_writeUntils (i : LeaseIdx) : Reach s (s.writeUntils i) := by
  unfold writeUntils
  split
  · exact Reach.refl s
  · exact reach_mapSlots s fun _ _ _ => recordOk_writeUntil i _ _

theorem reach_overtake (h : Handle) (p : Pos) : Reach s (s.overtake h p) := by
  unfold overtake
  split
  · exact (Change.worker _ _ (by simp) (by simp)).reach
  · exact Reach.refl s

theorem reach_completeMove (h : Handle) (p : Pos) : Reach s (s.completeMove h p) := by
  unfold completeMove
  split
  · exact (Change.worker _ _ (by simp) (by simp)).reach
  · exact Reach.refl s

theorem reach_endWorker : Reach s s.endWorker :=
  (Change.worker _ _ (by simp) (by simp)).reach.trans (reach_raise _ _)

/-- The lease of an entry after one lease is replaced. -/
theorem leaseAt_setLease (i j : LeaseIdx) (l : Lease) :
    (s.setLease i l).leaseAt j = if j = i then some l else s.leaseAt j :=
  leaseAt_set (s := s) (e := { s.leases.get i with lease := some l }) rfl j

/-- After the vacate at once of a lease no record names it (02, R37). -/
theorem unnamed_vacateAtOnce (i : LeaseIdx) : (s.vacateAtOnce i).Unnamed i := by
  intro p y hy
  rw [slotAt_vacateAtOnce] at hy
  obtain ⟨x, -, rfl⟩ := Option.map_eq_some_iff.mp hy
  obtain ⟨o, u, inc, g, q⟩ := x
  by_cases ho : o = some i <;> by_cases hi : inc.map Incoming.lease = some i <;> simp [ho, hi]

theorem heldDropped_retire {i : LeaseIdx} {r : EndReason} {l : Lease} (hl : s.leaseAt i = some l) :
    s.HeldDropped l (s.retire i r).roster := by
  intro t
  by_cases ht : l.holder = some t
  · rw [show (s.retire i r).roster.get t = (s.retire i r).entry t from rfl, entry_retire_holder s hl ht]
    simp only [ht, if_true]
    split <;> exact ⟨rfl, rfl, rfl, rfl, rfl⟩
  · rw [show (s.retire i r).roster.get t = (s.retire i r).entry t from rfl, entry_retire_other s hl ht]
    simp only [ht, if_false, and_self]

theorem retire_none {i : LeaseIdx} (r : EndReason) (h : s.leaseAt i = none) : s.retire i r = s := by
  unfold retire
  rw [h]

theorem slots_vacateAtOnce (i : LeaseIdx) :
    (s.vacateAtOnce i).slots = (s.mapSlots fun _ x => (x.vacateNow i (s.counter + 2)).dropIncoming i).slots := by
  rw [vacateAtOnce, slots_noteSpaceFreed]

/-- The position records after a retirement are those after the vacate at once (01, R22; 02, R37). -/
theorem slots_retire {i : LeaseIdx} {r : EndReason} {l : Lease} (hl : s.leaseAt i = some l) :
    (s.retire i r).slots = (s.vacateAtOnce i).slots := by
  unfold retire
  simp only [hl, setReconsider, freeLease, slots_setEngine, slots_setLeases, slots_forgetGrantCopy, slots_withdrawHandle,
    slots_overtake, slots_vacateAtOnce]
  simp [mapSlots, counter]

/-- A retirement with the changes of the roster made last. -/
theorem retire_eq {i : LeaseIdx} {r : EndReason} {l : Lease} (hl : s.leaseAt i = some l) :
    s.retire i r = (((((s.vacateAtOnce i).overtake (s.handleOf i) l.start).withdrawHandle (s.handleOf i)).freeLease i
      r).setRoster (s.retire i r).roster).setReconsider := by
  refine ext_fields ?fg ?slots ?leases ?engine ?requests ?deferred ?worker ?roster ?turnPointer ?uplink ?notices ?credited
    ?attention ?attnEn ?settings ?port ?cmd ?due ?pending
  case slots => simp [slots_retire s hl]
  case leases => simp [leases_retire s hl, freeLease]
  case engine =>
    by_cases hu : s.worker.underMove = some (s.handleOf i) <;>
      simp [hu, engine_retire s hl, setReconsider, freeLease, overtake_form, vacateAtOnce, noteSpaceFreed_form]
  case worker => simp [worker_retire s hl, overtake_form]
  case notices => simp [notices_retire s hl, withdrawHandle]
  all_goals simp

theorem reach_retire (i : LeaseIdx) (r : EndReason) : Reach s (s.retire i r) := by
  cases hl : s.leaseAt i with
  | none => rw [retire_none s r hl]; exact Reach.refl s
  | some l =>
    rw [retire_eq s hl]
    refine (reach_vacateAtOnce s i).trans ((reach_overtake _ (s.handleOf i) l.start).trans
      ((reach_withdrawHandle _ (s.handleOf i)).trans ?_))
    refine Reach.trans (Change.freed i l r _ ?lease ?unnamed ?held).reach (reach_setReconsider _)
    case lease => simpa [leaseAt] using hl
    case unnamed =>
      intro p x hx
      refine unnamed_vacateAtOnce s i p x ?_
      rw [← hx]
      exact slotAt_congr (by simp) p
    case held =>
      have h := heldDropped_retire s (r := r) hl
      intro t
      simpa [entry] using h t

theorem reach_tellHolder (l : Lease) (h : Handle) (b : NoticeBody) : Reach s (s.tellHolder l h b) := by
  unfold tellHolder
  split
  · exact Reach.refl s
  · exact reach_inform s _

theorem reach_retireVacated (i : LeaseIdx) : Reach s (s.retireVacated i) := by
  unfold retireVacated
  split
  · exact Reach.refl s
  · split
    · exact reach_retire s _ _
    · exact (reach_retire s _ _).trans (reach_tellHolder _ _ _ _)

theorem reach_reclaim (i : LeaseIdx) (r : EndReason) : Reach s (s.reclaim i r) := by
  unfold reclaim
  split
  · exact Reach.refl s
  · exact (reach_retire s _ _).trans (reach_tellHolder _ _ _ _)

theorem reach_removeMove (i : LeaseIdx) : Reach s (s.removeMove i) := by
  unfold removeMove
  split
  · exact Reach.refl s
  · next l hl =>
    refine (reach_withdrawMove s i).trans ((reach_removeIncoming _ i).trans (Reach.trans ?_ (reach_overtake _ _ _)))
    refine reach_setLease _ (l := l) _ ?_ (.of_eq rfl rfl rfl rfl fun m hm => by simp at hm)
    simpa [leaseAt] using hl

theorem reach_decideEnd (i : LeaseIdx) (r : EndReason) : Reach s (s.decideEnd i r) := by
  unfold decideEnd
  have h : Reach s (if s.hasUnsentMove i then s.removeMove i else s) := by
    split
    · exact reach_removeMove s i
    · exact Reach.refl s
  refine h.trans ?_
  generalize (if s.hasUnsentMove i then s.removeMove i else s) = t
  dsimp only
  split
  · exact Reach.refl _
  · next l hl => exact reach_setLease _ _ hl (.of_eq rfl rfl rfl rfl fun m hm => ⟨m, hm, rfl⟩)

/-! ### Holder removal (03, R71) -/

/-- A retirement leaves every other entry's lease. -/
theorem leaseAt_retire (i j : LeaseIdx) (r : EndReason) :
    (s.retire i r).leaseAt j = if j = i then none else s.leaseAt j := by
  cases hl : s.leaseAt i with
  | none =>
    rw [retire_none s r hl]
    split
    · next h => rw [h, hl]
    · rfl
  | some l => exact leaseAt_set (leases_retire s hl) j

/-- The leases after several are retired. -/
theorem leaseAt_retireAll (l : List LeaseIdx) (r : EndReason) (j : LeaseIdx) :
    (l.foldl (fun s i => s.retire i r) s).leaseAt j = if j ∈ l then none else s.leaseAt j := by
  induction l generalizing s with
  | nil => simp
  | cons a as ih =>
    rw [List.foldl_cons, ih, leaseAt_retire]
    by_cases ha : j = a <;> by_cases hm : j ∈ as <;> simp [ha, hm]

theorem mem_leasesOf (t : Trib) (i : LeaseIdx) : i ∈ s.leasesOf t ↔ ∃ l, s.leaseAt i = some l ∧ l.holder = some t := by
  unfold leasesOf
  rw [List.mem_filter]
  constructor
  · rintro ⟨-, h⟩
    split at h
    · next l hl => exact ⟨l, hl, by simpa using h⟩
    · exact absurd h (by simp)
  · rintro ⟨l, hl, hh⟩
    exact ⟨List.mem_finRange i, by simp [hl, hh]⟩

/-- Once its leases are retired a tributary holds none. -/
theorem leasesOf_retireAll (t : Trib) (r : EndReason) :
    ((s.leasesOf t).foldl (fun s i => s.retire i r) s).leasesOf t = [] := by
  rw [List.eq_nil_iff_forall_not_mem]
  intro i hi
  obtain ⟨l, hl, hh⟩ := (mem_leasesOf _ t i).mp hi
  rw [leaseAt_retireAll] at hl
  split at hl
  · exact absurd hl (by simp)
  · next hn => exact hn ((mem_leasesOf s t i).mpr ⟨l, hl, hh⟩)

/-- The holders' leases depend on the lease table alone. -/
theorem leasesOf_congr {s t : State} (h : s.leases = t.leases) (a : Trib) : s.leasesOf a = t.leasesOf a := by
  unfold leasesOf leaseAt
  rw [h]

variable {s} in
theorem reach_holderRemoval (t : Trib) (r : EndReason) (final : RosterState) (hm : s.due.missed = none) :
    Reach s (s.holderRemoval t r final) := by
  unfold holderRemoval
  have hgone := leasesOf_retireAll s t r
  have hdue : ((s.leasesOf t).foldl (fun s i => s.retire i r) s).due = s.due :=
    foldl_frame State.due _ (fun _ _ => due_retire _ _ _) _ _
  refine (Reach.foldl (fun s i => reach_retire s i r) (s.leasesOf t) s).trans ?_
  refine (reach_filterRequests _ fun q => decide (q.sender ≠ t)).trans
    ((reach_filterDeferred _ fun d => decide (d.sender ≠ t)).trans ?_)
  refine (reach_withdrawAddress _ t).trans ((reach_setRetireFlag _ t false).trans (Reach.trans ?_ (reach_raise _ _)))
  refine reach_setEntry _ _ _ ⟨rfl, rfl, .inl rfl, .inl rfl, .inr (.inr (.inr ?_)), .inr (.inr (.inr ?_))⟩
  · exact (leasesOf_congr (by simp) t).trans hgone
  · simpa [hdue] using hm

/-! ### The reports between blocks -/

theorem reach_reportVacated (i : LeaseIdx) : Reach s (s.reportVacated i) := by
  unfold reportVacated
  split
  · exact Reach.refl s
  · exact reach_retireVacated s i

theorem reach_vacateStep : Reach s s.vacateStep :=
  (reach_mapSlots s fun _ _ _ => recordOk_vacateDue _).trans (Reach.foldl reach_reportVacated _ _)

theorem reach_guardStep : Reach s s.guardStep :=
  (reach_mapSlots s fun _ _ _ => recordOk_endGuard _).trans (reach_noteSpaceFreed _ _)

variable {s} in
theorem reach_moveArrived {i : LeaseIdx} {l : Lease} {m : Move} (hl : s.leaseAt i = some l) (hm : l.move = some m) :
    Reach s (s.moveArrived i l m.target) := by
  refine Reach.trans (reach_setLease s { l with start := m.target, move := none } hl
    ⟨rfl, rfl, rfl, fun h => ⟨h.2 m hm, fun m' hm' => ?_⟩⟩) (reach_completeMove _ _ _)
  exact absurd hm' (by simp)

variable {s} in
theorem reach_leaseLive {i : LeaseIdx} {l : Lease} (hl : s.leaseAt i = some l) : Reach s (s.leaseLive i l) :=
  (reach_setLease s _ hl l.kept_live).trans (reach_writeUntils _ _)

theorem reach_reportLive (i : LeaseIdx) : Reach s (s.reportLive i) := by
  unfold reportLive
  split
  · exact Reach.refl s
  · next l hl =>
    split
    · next m hm =>
      split
      · exact reach_moveArrived hl hm
      · split
        · exact reach_leaseLive hl
        · exact Reach.refl s
    · split
      · exact reach_leaseLive hl
      · exact Reach.refl s

theorem reach_goLiveStep : Reach s s.goLiveStep :=
  (reach_mapSlots s fun _ _ _ => recordOk_goLiveDue _).trans (Reach.foldl reach_reportLive _ _)

theorem reach_untilInRange (i : LeaseIdx) : Reach s (s.untilInRange i) := by
  unfold untilInRange
  repeat' split
  · exact reach_writeUntils s i
  all_goals exact Reach.refl s

theorem reach_endMoveOf (i : LeaseIdx) : Reach s (s.endMoveOf i) := by
  unfold endMoveOf
  repeat' split
  · exact (reach_removeMove s i).trans (reach_reportVacated _ _)
  all_goals exact Reach.refl s

theorem reach_refuseDeferred (r : RefusalReason) (d : Deferred) : Reach s (refuseDeferred r s d) := reach_inform s _

theorem reach_waitsStep : Reach s s.waitsStep :=
  (Change.deferred _ List.filter_sublist).reach.trans (Reach.foldl (fun s d => reach_refuseDeferred s RefusalReason.waitExpired d) _ _)

/-- A report taken from what is outstanding, where no missed turn is added. -/
theorem reach_setDue (d : Due) (h : d.missed = none ∨ d.missed = s.due.missed) : Reach s (s.setDue d) := by
  refine (Change.due d fun t r ht => .inl ?_).reach
  rcases h with h | h
  · rw [h] at ht; exact absurd ht (by simp)
  · rw [← h]; exact ht

theorem reach_takeVacate : Reach s s.takeVacate := by
  unfold takeVacate
  split
  · exact (reach_setDue _ { s.due with vacate := false } (.inr rfl)).trans (reach_vacateStep _)
  · exact Reach.refl s

theorem reach_takeGuardEnd : Reach s s.takeGuardEnd := by
  unfold takeGuardEnd
  refine (reach_takeVacate s).trans ?_
  dsimp only
  split
  · exact (reach_setDue _ { s.takeVacate.due with guardEnd := false } (.inr rfl)).trans (reach_guardStep _)
  · exact Reach.refl _

theorem reach_takeGoLive : Reach s s.takeGoLive := by
  unfold takeGoLive
  refine (reach_takeGuardEnd s).trans ?_
  dsimp only
  split
  · exact (reach_setDue _ { s.takeGuardEnd.due with goLive := false } (.inr rfl)).trans (reach_goLiveStep _)
  · exact Reach.refl _

theorem reach_takeUntils : Reach s s.takeUntils := by
  unfold takeUntils
  split
  · exact (reach_setDue _ { s.due with untils := false } (.inr rfl)).trans (Reach.foldl reach_untilInRange _ _)
  · exact Reach.refl s

theorem reach_takeMoveEnds : Reach s s.takeMoveEnds := by
  unfold takeMoveEnds
  split
  · exact (reach_setDue _ { s.due with moveEnds := false } (.inr rfl)).trans (Reach.foldl reach_endMoveOf _ _)
  · exact Reach.refl s

theorem reach_takeWaits : Reach s s.takeWaits := by
  unfold takeWaits
  split
  · exact (reach_setDue _ { s.due with waits := false } (.inr rfl)).trans (reach_waitsStep _)
  · exact Reach.refl s

theorem reach_takeReaction (r : FrameReaction) : Reach s (s.takeReaction r) := by
  cases r with
  | slotMap => exact reach_takeGoLive s
  | untils => exact reach_takeUntils s
  | moveEnds => exact reach_takeMoveEnds s
  | waits => exact reach_takeWaits s

variable {s} in
theorem reach_applyLimit (t : Trib) (r : MissedLimit) (hm : s.due.missed = none) : Reach s (s.applyLimit t r) := by
  cases r with
  | silent =>
    exact (reach_setEntry s t { s.entry t with state := .silent }
      ⟨rfl, rfl, .inl rfl, .inl rfl, .inr (.inl rfl), .inr (.inr (.inl rfl))⟩).trans
      (reach_raise _ _)
  | leaving =>
    exact (reach_setEntry s t { s.entry t with state := .leaving }
      ⟨rfl, rfl, .inl rfl, .inl rfl, .inr (.inl rfl), .inr (.inr (.inr hm))⟩).trans
      (reach_setRetireFlag _ _ _)

theorem reach_takeMissed : Reach s s.takeMissed := by
  unfold takeMissed
  split
  · exact Reach.refl s
  · exact (reach_setDue s { s.due with missed := none } (.inl rfl)).trans (reach_applyLimit _ _ rfl)

theorem reach_reclaimAll (l : List (LeaseIdx × EndReason)) : Reach s (s.reclaimAll l) := by
  unfold reclaimAll
  exact Reach.foldl (f := fun (s : State) (x : LeaseIdx × EndReason) => s.reclaim x.1 x.2)
    (fun s x => reach_reclaim s x.1 x.2) l s

theorem reach_takeReclaims : Reach s s.takeReclaims :=
  (reach_setDue s { s.due with reclaims := [] } (.inr rfl)).trans (reach_reclaimAll _ _)

theorem reach_finishEvents : Reach s s.finishEvents := by
  have h : Reach s s.finishSlotMap := by
    unfold finishSlotMap
    split
    · exact Reach.refl s
    · exact reach_takeGoLive s
  exact h.trans ((reach_takeMissed _).trans (reach_takeReclaims _))

theorem reach_hear : Reach s s.hear := by
  have h : Reach s s.finishTermEnds := by
    unfold finishTermEnds
    split
    · exact Reach.refl s
    · exact (reach_takeGoLive s).trans (reach_takeMoveEnds _)
  exact h.trans ((reach_takeMissed _).trans ((reach_takeReclaims _).trans (reach_takeUntils _)))

theorem reach_settle : Reach s s.settle :=
  (reach_takeGoLive s).trans ((reach_takeUntils _).trans ((reach_takeMoveEnds _).trans ((reach_takeWaits _).trans
    ((reach_takeMissed _).trans (reach_takeReclaims _)))))

/-! ### The sending (08, R166, R167) -/

theorem reach_grantSent (i : LeaseIdx) (e : Frame) : Reach s (s.grantSent i e) := by
  unfold grantSent
  split
  · exact Reach.refl s
  · next l hl =>
    exact (reach_setLease s { l with
      startFrame := some e, state := if l.state = .announcing then .pending else l.state } hl
      (.of_eq rfl rfl rfl rfl fun m hm => ⟨m, hm, rfl⟩)).trans (reach_mapSlots _ fun _ _ _ => recordOk_writeFrom i e)

theorem reach_endSent (i : LeaseIdx) : Reach s (s.endSent i) := by
  unfold endSent
  split
  · exact Reach.refl s
  · next l hl => exact (reach_setLease s _ hl (Lease.kept_fixEnd _ _ l)).trans (reach_writeUntils _ _)

theorem reach_moveSent (i : LeaseIdx) : Reach s (s.moveSent i) := by
  unfold moveSent
  split
  · exact Reach.refl s
  · next l hl =>
    split
    · exact Reach.refl s
    · next m hm =>
      refine (reach_setLease s { l with
        move := some { m with effect := some (s.counter + s.settings.d.setWidth 16) } } hl
        (.of_eq rfl rfl rfl rfl fun m' hm' => ⟨m, hm, ?_⟩)).trans ?_
      · simp only [Option.some.injEq] at hm'
        rw [← hm']
      · dsimp only
        split
        · exact reach_mapSlots _ fun _ _ _ => recordOk_writeMove i _ _
        · exact (reach_removeIncoming _ i).trans (reach_reportVacated _ i)

theorem reach_reportSending (q : QueuedNotice) : Reach s (s.reportSending q) := by
  unfold reportSending
  repeat' split
  · exact Reach.refl s
  · exact reach_grantSent s _ _
  · exact reach_moveSent s _
  · exact reach_endSent s _
  · exact reach_endSent s _
  · exact Reach.refl s

theorem reach_recordHeld (n : Notice) (e : Frame) : Reach s (s.recordHeld n e) := by
  unfold recordHeld
  repeat' split
  · exact Reach.refl s
  · exact reach_setEntry s _ _ (.of_eq rfl rfl rfl rfl rfl)
  · exact Reach.refl s

theorem reach_reportAnswer (q : QueuedNotice) : Reach s (s.reportAnswer q) := by
  unfold reportAnswer
  split
  · refine Reach.trans (Change.notices _ (.inr ?_)).reach (reach_recordHeld _ _ _)
    rw [List.length_map]
  · exact Reach.refl s

/-- What the notice unit passes over and takes leaves the rest of its queue (08, R168). -/
theorem nextToSend_length (now : Frame) (l : List QueuedNotice) : (nextToSend now l).2.length ≤ l.length := by
  induction l with
  | nil => exact Nat.le_refl _
  | cons q rest ih =>
    unfold nextToSend
    split
    · exact Nat.le_succ_of_le ih
    · exact Nat.le_succ _

theorem reach_sendNotice : Reach s s.sendNotice := by
  unfold sendNotice
  have h := nextToSend_length s.counter s.notices
  split
  · next rest hr =>
    rw [hr] at h
    exact (Change.notices _ (.inr h)).reach
  · next q rest hr =>
    rw [hr] at h
    exact (Change.notices rest (.inr h)).reach.trans ((reach_reportSending _ q).trans (reach_reportAnswer _ q))

theorem reach_markCopies : Reach s s.markCopies := by
  refine (Change.roster _ fun t => ?_).reach
  rw [Table.get_mapFrom]
  unfold RosterEntry.markCome
  repeat' split
  all_goals exact .of_eq rfl rfl rfl rfl rfl

end State
end Sys2Proof.Machine
end

section
/-!
PROOFS. Placement and choice, said once: which position a placement or a move search gives, which records a free run has,
which victim is chosen, which move is next and which deferred entry fits (02, section 2.5; 03, section 3.4; 04; 05).
-/
namespace Sys2Proof.Machine

/-- A FREE record has no owner, no incoming entry, no guard and no flag (02, R40). -/
theorem Slot.isFree_iff (x : Slot) : x.isFree = true ↔
    x.owner = none ∧ x.incoming = none ∧ x.guardUntil = none ∧ x.quarantine = false := by
  simp [Slot.isFree, and_assoc]

namespace State

variable {s : State}

/-- A tributary speaks while it is PRESENT or SILENT (07, R132). -/
theorem speaks_iff (s : State) (t : Trib) :
    s.speaks t = true ↔ (s.entry t).state = .present ∨ (s.entry t).state = .silent := by
  rw [speaks, Bool.or_eq_true, decide_eq_true_eq, decide_eq_true_eq]

/-- A run and a lease fit a tributary's quotas (03, R61). -/
theorem withinQuota_iff (s : State) (t : Trib) (c : LenClass) : s.withinQuota t c = true ↔
    (s.entry t).slotsHeld + 2 ^ c.val ≤ (s.entry t).slotQuota ∧ (s.entry t).leasesHeld + 1 ≤ (s.entry t).leaseQuota := by
  rw [withinQuota, Bool.and_eq_true, decide_eq_true_eq, decide_eq_true_eq]
  rfl

/-- The records of an aligned run are those of its positions. -/
theorem mem_runSlots_iff (s : State) {c : LenClass} {start : Pos} (h : aligned c start.val = true) (x : Slot) :
    x ∈ s.runSlots start c ↔ ∃ p, start.val ≤ p ∧ p < start.val + runLength c ∧ s.slotAt p = some x := by
  obtain ⟨h10, -, h64⟩ := (aligned_iff c start.val).mp h
  have hlen : s.slots.cells.length = 54 := s.slots.size
  have hrun : runLength c = 2 ^ c.val := rfl
  unfold runSlots
  rw [List.mem_iff_getElem?]
  constructor
  · rintro ⟨k, hk⟩
    rw [List.getElem?_take] at hk
    split at hk
    · next hlt =>
      rw [List.getElem?_drop] at hk
      refine ⟨start.val + k, by omega, by omega, ?_⟩
      have hlow : ¬ start.val + k < Config.firstLeasable := by simp [Config.firstLeasable]; omega
      rw [slotAt, if_neg hlow, ← hk]
      congr 1
      simp only [Config.firstLeasable]
      omega
    · exact absurd hk (by simp)
  · rintro ⟨p, hp, hp', hx⟩
    have hlow : ¬ p < Config.firstLeasable := by simp [Config.firstLeasable]; omega
    rw [slotAt, if_neg hlow] at hx
    refine ⟨p - start.val, ?_⟩
    rw [List.getElem?_take, if_pos (by omega), List.getElem?_drop, ← hx]
    congr 1
    simp only [Config.firstLeasable]
    omega

theorem aligned_of_runFree {c : LenClass} {p : Pos} (h : s.runFree c p = true) : aligned c p.val = true := by
  rw [runFree, Bool.and_eq_true] at h
  exact h.1

/-- Every position of a free run is FREE (02, R40). -/
theorem isFree_of_runFree {c : LenClass} {start : Pos} (h : s.runFree c start = true) {p : Nat} {x : Slot}
    (hp : inRun start c p = true) (hx : s.slotAt p = some x) : x.isFree = true := by
  have ha := aligned_of_runFree h
  rw [runFree, Bool.and_eq_true, List.all_eq_true] at h
  rw [inRun, Bool.and_eq_true, decide_eq_true_eq, decide_eq_true_eq] at hp
  exact h.2 x ((mem_runSlots_iff s ha x).mpr ⟨p, hp.1, hp.2, hx⟩)

/-- A placement gives a free run (02, R41). -/
theorem runFree_of_placement {c : LenClass} {w : BitVec 6} {p : Pos} (h : s.placement c w = some p) :
    s.runFree c p = true := by
  unfold placement at h
  split at h
  · next hc => rw [← Option.some.inj h]; exact hc.2
  · exact List.find?_some (p := fun p => s.runFree c p) h

/-- A move search gives a free run below the start (02, R42). -/
theorem runFree_of_moveSearch {c : LenClass} {start p : Pos} (h : s.moveSearch c start = some p) :
    p < start ∧ s.runFree c p = true := by
  have h' := List.find?_some h
  simpa using h'

/-- The lowest FREE entry is FREE (01, R1). -/
theorem leaseAt_of_freeEntry {i : LeaseIdx} (h : s.freeEntry = some i) : s.leaseAt i = none := by
  have h' := List.find?_some h
  simpa using h'

/-- A handle that resolves names the lease that its entry holds (01, R3). -/
theorem resolve_eq_some {h : Handle} {l : Lease} :
    s.resolve h = some l ↔ (s.leases.get h.index).generation = h.generation ∧ s.leaseAt h.index = some l := by
  unfold resolve
  split
  · next hg => simp [hg]
  · next hg => simp [hg]

theorem mem_candidates {r : Request} {pr : BitVec 2} {c : LenClass} {i : LeaseIdx} {l : Lease} :
    (i, l) ∈ s.candidates r pr c ↔ s.leaseAt i = some l ∧ s.isCandidate r pr c l = true := by
  unfold candidates
  rw [List.mem_filterMap]
  constructor
  · rintro ⟨j, -, hj⟩
    split at hj
    · next k hk =>
      split at hj
      · next hc =>
        simp only [Option.some.injEq, Prod.mk.injEq] at hj
        obtain ⟨rfl, rfl⟩ := hj
        exact ⟨hk, hc⟩
      · exact absurd hj (by simp)
    · exact absurd hj (by simp)
  · rintro ⟨hl, hc⟩
    exact ⟨i, List.mem_finRange i, by simp [hl, hc]⟩

/-- The victim chosen is one of the candidates. -/
theorem mem_of_chooseVictim {l : List (LeaseIdx × Lease)} {v : LeaseIdx × Lease} (h : chooseVictim l = some v) :
    v ∈ l := by
  cases l with
  | nil => exact absurd h (by simp [chooseVictim])
  | cons x rest =>
    simp only [chooseVictim, Option.some.injEq] at h
    subst h
    have key : ∀ (rest : List (LeaseIdx × Lease)) (best : LeaseIdx × Lease),
        rest.foldl (fun best y => if preferred best.2 y.2 then y else best) best ∈ best :: rest := by
      intro rest
      induction rest with
      | nil => intro best; exact List.mem_cons_self
      | cons y ys ih =>
        intro best
        rw [List.foldl_cons]
        split
        · exact List.mem_cons_of_mem _ (ih y)
        · rcases List.mem_cons.mp (ih best) with h | h
          · rw [h]; exact List.mem_cons_self
          · exact List.mem_cons_of_mem _ (List.mem_cons_of_mem _ h)
    exact key rest x

theorem mem_movableAt {p : Pos} {i : LeaseIdx} {l : Lease} :
    (i, l) ∈ s.movableAt p ↔ s.leaseAt i = some l ∧ movable l = true ∧ l.start = p := by
  unfold movableAt
  rw [List.mem_filterMap]
  constructor
  · rintro ⟨j, -, hj⟩
    split at hj
    · next k hk =>
      split at hj
      · next hc =>
        simp only [Option.some.injEq, Prod.mk.injEq] at hj
        obtain ⟨rfl, rfl⟩ := hj
        exact ⟨hk, hc⟩
      · exact absurd hj (by simp)
    · exact absurd hj (by simp)
  · rintro ⟨hl, hc⟩
    exact ⟨i, List.mem_finRange i, by simp [hl, hc]⟩

/-- The candidates of the worker are the movable leases, wherever the scan point stands (05, R110). -/
theorem mem_moveOrder {i : LeaseIdx} {l : Lease} :
    (i, l) ∈ s.moveOrder ↔ s.leaseAt i = some l ∧ movable l = true := by
  unfold moveOrder
  simp only [List.mem_append, List.mem_flatMap, List.mem_filter, mem_movableAt, decide_eq_true_eq]
  constructor
  · rintro (⟨p, -, hl, hm, -⟩ | ⟨p, -, hl, hm, -⟩) <;> exact ⟨hl, hm⟩
  · rintro ⟨hl, hm⟩
    rcases Nat.lt_or_ge l.start.val s.worker.scan with h | h
    · exact .inr ⟨l.start, ⟨List.mem_finRange _, h⟩, hl, hm, rfl⟩
    · exact .inl ⟨l.start, ⟨List.mem_finRange _, h⟩, hl, hm, rfl⟩

/-- The next move is that of a movable lease, to the target its search gives (05, R110). -/
theorem nextMove_some {i : LeaseIdx} {l : Lease} {target : Pos} (h : s.nextMove = some (i, l, target)) :
    s.leaseAt i = some l ∧ movable l = true ∧ s.moveSearch l.cls l.start = some target := by
  obtain ⟨⟨j, k⟩, hx, hf⟩ := List.exists_of_findSome?_eq_some h
  obtain ⟨p, hp, he⟩ := Option.map_eq_some_iff.mp hf
  simp only [Prod.mk.injEq] at he
  obtain ⟨rfl, rfl, rfl⟩ := he
  obtain ⟨hl, hm⟩ := mem_moveOrder.mp hx
  exact ⟨hl, hm, hp⟩

/-- A deferred entry that fits meets every condition of R83. -/
theorem fits_eq_some {d : Deferred} {i : LeaseIdx} {start : Pos} :
    s.fits d = some (i, start) ↔ s.speaks d.sender = true ∧ s.withinQuota d.sender d.cls = true ∧
      come s.counter d.waitUntil = false ∧ s.freeEntry = some i ∧ s.placement d.cls (d.preferred.getD 0) = some start := by
  unfold fits
  constructor
  · intro h
    split at h
    · next hc =>
      split at h
      · next j p hj hp =>
        simp only [Option.some.injEq, Prod.mk.injEq] at h
        obtain ⟨rfl, rfl⟩ := h
        exact ⟨hc.1, hc.2.1, hc.2.2, hj, hp⟩
      · exact absurd h (by simp)
    · exact absurd h (by simp)
  · rintro ⟨h1, h2, h3, h4, h5⟩
    rw [if_pos ⟨h1, h2, h3⟩]
    simp only [h4, h5]

/-- The first fit is an entry of the list that fits, after entries that do not (04, R82). -/
theorem firstFit_eq_some {k n : Nat} {l : List Deferred} {d : Deferred} {i : LeaseIdx} {start : Pos} :
    s.firstFit k l = some (n, d, i, start) ↔
      ∃ above below, l = above ++ d :: below ∧ n = k + above.length ∧ (∀ x ∈ above, s.fits x = none) ∧
        s.fits d = some (i, start) := by
  induction l generalizing k with
  | nil => simp [firstFit]
  | cons a as ih =>
    unfold firstFit
    cases ha : s.fits a with
    | some y =>
      obtain ⟨j, p⟩ := y
      simp only [Option.some.injEq, Prod.mk.injEq]
      constructor
      · rintro ⟨rfl, rfl, rfl, rfl⟩
        exact ⟨[], as, rfl, rfl, by simp, ha⟩
      · rintro ⟨above, below, hl, hn, hnone, hd⟩
        cases above with
        | nil =>
          simp only [List.nil_append, List.cons.injEq] at hl
          obtain ⟨rfl, rfl⟩ := hl
          rw [ha] at hd
          simp only [Option.some.injEq, Prod.mk.injEq] at hd
          exact ⟨hn.symm, rfl, hd.1, hd.2⟩
        | cons b bs =>
          simp only [List.cons_append, List.cons.injEq] at hl
          have := hnone b List.mem_cons_self
          rw [← hl.1, ha] at this
          exact absurd this (by simp)
    | none =>
      simp only [ih]
      constructor
      · rintro ⟨above, below, rfl, rfl, hnone, hd⟩
        refine ⟨a :: above, below, rfl, by simp only [List.length_cons]; omega, ?_, hd⟩
        intro x hx
        rcases List.mem_cons.mp hx with rfl | hx
        · exact ha
        · exact hnone x hx
      · rintro ⟨above, below, hl, hn, hnone, hd⟩
        cases above with
        | nil =>
          simp only [List.nil_append, List.cons.injEq] at hl
          rw [← hl.1, ha] at hd
          exact absurd hd (by simp)
        | cons b bs =>
          simp only [List.cons_append, List.cons.injEq] at hl
          refine ⟨bs, below, hl.2, ?_, fun x hx => hnone x (List.mem_cons_of_mem _ hx), hd⟩
          rw [hn, List.length_cons]
          omega

/-- No entry fits where the list gives none (04, R82). -/
theorem firstFit_eq_none {k : Nat} {l : List Deferred} : s.firstFit k l = none ↔ ∀ d ∈ l, s.fits d = none := by
  induction l generalizing k with
  | nil => simp [firstFit]
  | cons a as ih =>
    unfold firstFit
    cases ha : s.fits a with
    | some y => simp [ha]
    | none => simp [ih, ha]

/-! ### An end decided (01, R18) -/

/-- A lease without an UNSENT move is ENDING at once. -/
theorem decideEnd_of_unmoved {i : LeaseIdx} {l : Lease} (hl : s.leaseAt i = some l)
    (hm : ∀ m, l.move = some m → m.effect ≠ none) (r : EndReason) :
    s.decideEnd i r = s.setLease i { l with state := .ending, endReason := some r } := by
  have hu : s.hasUnsentMove i = false := by
    unfold hasUnsentMove
    simp only [hl]
    split
    · next m h => simpa [Option.isSome_iff_ne_none] using hm m h
    · rfl
  simp [decideEnd, hu, hl]

end State
end Sys2Proof.Machine
end

section
/-!
PROOFS. What the engine items reach (`Reach`): the messages of the bus, the internal work and the management commands.
-/
namespace Sys2Proof.Machine

namespace State

variable {s : State}

/-- A tributary that speaks may hold leases. -/
theorem mayHold_of_speaks {t : Trib} (h : s.speaks t = true) : (s.entry t).state.mayHold = true := by
  unfold speaks at h
  cases hs : (s.entry t).state <;> simp [hs] at h <;> rfl

/-- An update of an entry's sequence bit, identity, missed turns or reply copy. -/
theorem reach_setEntry_present (t : Trib) (e : RosterEntry) (hs : e.slotsHeld = (s.entry t).slotsHeld)
    (hl : e.leasesHeld = (s.entry t).leasesHeld) (hsq : e.slotQuota = (s.entry t).slotQuota)
    (hlq : e.leaseQuota = (s.entry t).leaseQuota) (hst : e.state = .present) : Reach s (s.setEntry t e) :=
  reach_setEntry s t e ⟨hs, hl, .inl hsq, .inl hlq, .inr (.inl (by rw [hst]; rfl)), .inr (.inl hst)⟩

/-! ### Grants -/

/-- A lease created for a tributary that may hold it, within its quotas, on an aligned run (01, R15). -/
theorem reach_createLease {i : LeaseIdx} {t : Trib} {o : Origin} {start : Pos} {c : LenClass} {pr : BitVec 2}
    {term : BitVec 16} {seq : Bool} (hfree : s.leaseAt i = none) (ho : o ≠ .pin) (hquota : s.withinQuota t c = true)
    (hstate : (s.entry t).state.mayHold = true) (hrun : s.RunLaw → aligned c start.val = true) :
    Reach s (s.createLease i t o start c pr term seq) := by
  refine Reach.trans (Change.granted i ⟨(s.leases.get i).generation, none, some ⟨.announcing, some t, o, start, c, pr,
    s.grantedTerm term, none, none, none, seq, false, 0, none, false⟩⟩ _ t hfree rfl rfl ho hquota hstate
      fun h => ⟨hrun h, fun m hm => absurd hm (by simp)⟩).reach (reach_writeIncoming (i := i) ?_ start c)
  have h : ∀ (v : LeaseEntry), ((s.setLeases (s.leases.set i v)).addHeld t c).leaseAt i = v.lease := by
    intro v
    rw [leaseAt_set (s := s) (i := i) (e := v) (by simp)]
    simp
  rw [h]
  rfl

theorem reach_grantRequest {r : Request} {a : RequestArgs} {c : LenClass} {i : LeaseIdx} {start : Pos}
    (hfree : s.leaseAt i = none) (hquota : s.withinQuota r.sender c = true)
    (hstate : (s.entry r.sender).state.mayHold = true) (hrun : s.RunLaw → aligned c start.val = true) :
    Reach s (s.grantRequest r a c i start) :=
  (reach_createLease hfree (by simp) hquota hstate hrun).trans (reach_answer _ _ _)

theorem reach_endWithRevoked (i : LeaseIdx) (l : Lease) (r : EndReason) : Reach s (s.endWithRevoked i l r) := by
  unfold endWithRevoked
  refine (reach_decideEnd s i r).trans ?_
  dsimp only
  split
  · exact Reach.refl _
  · exact reach_announce _ _ _

/-- The lease of an entry after an end without a move is decided with a REVOKED. -/
theorem leaseAt_endWithRevoked {i : LeaseIdx} {l : Lease} (hl : s.leaseAt i = some l)
    (hm : ∀ m, l.move = some m → m.effect ≠ none) (r : EndReason) (j : LeaseIdx) :
    (s.endWithRevoked i l r).leaseAt j =
      if j = i then some { l with state := .ending, endReason := some r } else s.leaseAt j := by
  unfold endWithRevoked
  rw [decideEnd_of_unmoved hl hm]
  rw [← leaseAt_setLease]
  dsimp only
  split
  · rfl
  · simp [leaseAt]

@[simp] theorem roster_endWithRevoked (i : LeaseIdx) (l : Lease) (r : EndReason) :
    (s.endWithRevoked i l r).roster = s.roster := by
  unfold endWithRevoked
  dsimp only
  split <;> simp

/-- A shorter class of an aligned start is aligned. -/
theorem aligned_of_le {c d : LenClass} {n : Nat} (h : aligned d n = true) (hc : c ≤ d) : aligned c n = true := by
  rw [aligned_iff] at h ⊢
  obtain ⟨h10, hmod, h64⟩ := h
  have hdvd : 2 ^ c.val ∣ 2 ^ d.val := Nat.pow_dvd_pow 2 hc
  have hle : 2 ^ c.val ≤ 2 ^ d.val := Nat.le_of_dvd (Nat.two_pow_pos _) hdvd
  exact ⟨h10, Nat.mod_eq_zero_of_dvd (hdvd.trans (Nat.dvd_of_mod_eq_zero hmod)), by omega⟩

theorem reach_preempt {r : Request} {a : RequestArgs} {c : LenClass} {i : LeaseIdx} {v : LeaseIdx × Lease}
    (hv : v ∈ s.candidates r a.priority c) (hfree : s.leaseAt i = none) (hquota : s.withinQuota r.sender c = true)
    (hstate : (s.entry r.sender).state.mayHold = true) : Reach s (s.preempt r a c i v) := by
  obtain ⟨v, l⟩ := v
  obtain ⟨hl, hc⟩ := mem_candidates.mp hv
  simp only [isCandidate, Bool.and_eq_true, decide_eq_true_eq, Option.isNone_iff_eq_none] at hc
  obtain ⟨⟨⟨-, hmove⟩, hcls⟩, -⟩ := hc
  have hm : ∀ m, l.move = some m → m.effect ≠ none := fun m h => by rw [hmove] at h; exact absurd h (by simp)
  have hat := leaseAt_endWithRevoked hl hm .preempted
  have hentry : (s.endWithRevoked v l .preempted).entry r.sender = s.entry r.sender :=
    congrArg (Table.get · r.sender) (roster_endWithRevoked v l .preempted)
  refine (reach_endWithRevoked v l .preempted).trans (reach_grantRequest ?free ?quota ?holder ?run)
  case free =>
    rw [hat, if_neg]
    · exact hfree
    · rintro rfl
      rw [hl] at hfree
      exact absurd hfree (by simp)
  case quota => rw [withinQuota, hentry]; exact hquota
  case holder => rw [hentry]; exact hstate
  case run => exact fun hrun => aligned_of_le (hrun v _ ((hat v).trans (if_pos rfl))).1 hcls

/-! ### Deferral and the other answers -/

theorem hasDeferred_eq_false {t : Trib} : s.hasDeferred t = false ↔ ∀ d ∈ s.deferred, d.sender ≠ t := by
  simp [hasDeferred]

theorem reach_insertDeferred {r : Request} {a : RequestArgs} {c : LenClass} (hd : s.hasDeferred r.sender = false)
    (hlen : s.deferred.length < 8) : Reach s (s.insertDeferred r a c) :=
  (Change.deferredRanked _ (s.deferredOf r a c) (List.Sublist.refl _) (.inl hlen) (hasDeferred_eq_false.mp hd)).reach.trans
    (reach_answer _ _ _)

/-- A submission leaves the deferred list, so that the list may be written before it. -/
theorem setDeferred_submit (q : QueuedNotice) (l : List Deferred) :
    (s.submit q).setDeferred l = (s.setDeferred l).submit q := by
  simp only [submit_form]
  rfl

theorem reach_deferRequest {r : Request} {a : RequestArgs} {c : LenClass} (hd : s.hasDeferred r.sender = false) :
    Reach s (s.deferRequest r a c) := by
  unfold deferRequest
  split
  · next hlen => exact reach_insertDeferred hd hlen
  · split
    · next tail htail =>
      split
      · have hne : s.deferred ≠ [] := by
          rintro h
          rw [h] at htail
          exact absurd htail (by simp)
        have hlen : s.deferred.dropLast.length < s.deferred.length := by
          have := List.length_pos_iff.mpr hne
          rw [List.length_dropLast]
          omega
        unfold insertDeferred
        refine Reach.trans ?_ (reach_answer _ _ _)
        rw [refuseDeferred, inform, setDeferred_submit]
        refine Reach.trans ?_ (reach_submit _ _)
        have := (Change.deferredRanked s.deferred.dropLast (s.deferredOf r a c) (List.dropLast_sublist _) (.inr hlen)
          (hasDeferred_eq_false.mp hd)).reach
        simpa [submit_form, deferredOf, counter] using this
      · exact reach_refuse _ _ _ _ _
    · exact reach_refuse _ _ _ _ _

theorem reach_refuseFull (r : Request) (why : RefusalReason) : Reach s (s.refuseFull r why) :=
  (reach_refuse _ _ _ _ _).trans (reach_raise _ _)

theorem reach_noSpace {r : Request} {a : RequestArgs} {c : LenClass} {i : LeaseIdx} (hd : s.hasDeferred r.sender = false)
    (hfree : s.leaseAt i = none) (hquota : s.withinQuota r.sender c = true)
    (hstate : (s.entry r.sender).state.mayHold = true) : Reach s (s.noSpace r a c i) := by
  unfold noSpace
  split
  · next v hv =>
    split at hv
    · exact reach_preempt (mem_of_chooseVictim hv) hfree hquota hstate
    · exact absurd hv (by simp)
  · split
    · exact reach_deferRequest hd
    · exact reach_refuseFull _ _

/-- A REQUEST of a tributary that speaks (03, section 3.3). -/
theorem reach_admitRequest {r : Request} {a : RequestArgs} (hs : s.speaks r.sender = true) :
    Reach s (s.admitRequest r a) := by
  have hstate := mayHold_of_speaks hs
  unfold admitRequest
  split
  · exact reach_refuse _ _ _ _ _
  next hd =>
  have hd : s.hasDeferred r.sender = false := by simpa using hd
  split
  · exact reach_refuse _ _ _ _ _
  next c hc =>
  split
  · exact reach_refuse _ _ _ _ _
  split
  · exact reach_refuse _ _ _ _ _
  next hq =>
  have hquota : s.withinQuota r.sender c = true := by simpa using hq
  split
  · split
    · exact reach_deferRequest hd
    · exact reach_refuseFull _ _
  next i hi =>
  have hfree := leaseAt_of_freeEntry hi
  split
  · next start hp => exact reach_grantRequest hfree hquota hstate fun _ => aligned_of_runFree (runFree_of_placement hp)
  · exact reach_noSpace hd hfree hquota hstate

theorem reach_withdrawDeferred (r : Request) : Reach s (s.withdrawDeferred r) := by
  unfold withdrawDeferred
  split
  · exact (reach_filterDeferred s fun d => decide (d.sender ≠ r.sender)).trans (reach_refuse _ _ _ _ _)
  · exact reach_refuse _ _ _ _ _

/-- A RENEW changes the term and the end frame of the lease that its handle names (05, R91). -/
theorem reach_renewLease (r : Request) (h : Handle) (added : BitVec 16) : Reach s (s.renewLease r h added) := by
  unfold renewLease
  split
  · exact reach_refuse _ _ _ _ _
  next l hl =>
  have hl := (resolve_eq_some.mp hl).2
  split
  · exact reach_refuse _ _ _ _ _
  split
  · exact reach_refuse _ _ _ _ _
  unfold extend
  dsimp only
  split
  · next e _ _ =>
    exact (reach_setLease s { l with term := s.renewedTerm l.term added, endFrame := some e } hl
      (.of_eq rfl rfl rfl rfl fun m hm => ⟨m, hm, rfl⟩)).trans ((reach_writeUntils _ _).trans (reach_answer _ _ _))
  · exact (reach_setLease s { l with term := s.renewedTerm l.term added } hl
      (.of_eq rfl rfl rfl rfl fun m hm => ⟨m, hm, rfl⟩)).trans (reach_answer _ _ _)

theorem reach_releaseLease (r : Request) (h : Handle) : Reach s (s.releaseLease r h) := by
  unfold releaseLease
  split
  · exact reach_refuse _ _ _ _ _
  split
  · exact reach_refuse _ _ _ _ _
  dsimp only
  split
  · exact reach_refuse _ _ _ _ _
  · exact (reach_retire s _ _).trans (reach_answer _ _ _)
  · exact (reach_decideEnd s _ _).trans (reach_answer _ _ _)
  · exact (reach_decideEnd s _ _).trans (reach_answer _ _ _)

theorem reach_queryLease (r : Request) (h : Handle) : Reach s (s.queryLease r h) := by
  unfold queryLease
  repeat' split
  · exact reach_refuse _ _ _ _ _
  · exact reach_refuse _ _ _ _ _
  · exact reach_answer _ _ _

/-! ### Internal work -/

theorem reach_decideMove {i : LeaseIdx} {l : Lease} {target : Pos} (hl : s.leaseAt i = some l)
    (ha : aligned l.cls target.val = true) : Reach s (s.decideMove i l target) := by
  have hk : l.Kept { l with move := some ⟨target, none⟩ } := by
    refine ⟨rfl, rfl, rfl, fun h => ⟨h.1, fun m hm => ?_⟩⟩
    simp only [Option.some.injEq] at hm
    rw [← hm]
    exact ha
  unfold decideMove
  refine (reach_setLease s { l with move := some ⟨target, none⟩ } hl hk).trans ?_
  refine (reach_writeIncoming (i := i) (by rw [leaseAt_setLease]; simp) target l.cls).trans ?_
  dsimp only
  split
  · exact Reach.refl _
  · exact reach_announce _ _ _

theorem reach_compactOnce (s : State) : Reach s s.compactOnce := by
  unfold compactOnce
  split
  · next i l target h =>
    obtain ⟨hl, -, hsearch⟩ := nextMove_some h
    refine (reach_decideMove hl (aligned_of_runFree (runFree_of_moveSearch hsearch).2)).trans ?_
    exact (Change.worker _ _ (by simp) (by simp)).reach
  · exact reach_endWorker s

theorem reach_reconsiderOnce (s : State) : Reach s s.reconsiderOnce := by
  unfold reconsiderOnce
  split
  · next k d i start h =>
    obtain ⟨above, below, -, -, -, hfit⟩ := firstFit_eq_some.mp h
    obtain ⟨hspeaks, hquota, -, hentry, hplace⟩ := fits_eq_some.mp hfit
    refine (Change.deferred _ (List.eraseIdx_sublist _ k)).reach.trans ?_
    refine (reach_createLease (s := s.setDeferred (s.deferred.eraseIdx k)) (leaseAt_of_freeEntry hentry) (by simp) hquota
      (mayHold_of_speaks hspeaks) fun _ => aligned_of_runFree (runFree_of_placement hplace)).trans (reach_announce _ _ _)
  · exact reach_setEngine s rfl

/-! ### Management commands -/

theorem reach_finish (r : CommandReply) : Reach r.state (finish r) := (Change.cmd _).reach.trans (reach_raise _ _)

theorem reach_takeCommand (s : State) : Reach s s.takeCommand := (Change.cmd _).reach.trans (reach_serve _ _)

theorem reach_pinRun (a : Word) : Reach s (s.pinRun a).state := by
  unfold pinRun
  split
  · exact Reach.refl s
  next c hc =>
  dsimp only
  split
  · exact Reach.refl s
  split
  · exact Reach.refl s
  next hfree =>
  have hfree : s.runFree c (posOf (a.extractLsb' 0 6)) = true := by simpa using hfree
  split
  · exact Reach.refl s
  next i hi =>
  refine Reach.trans (Change.pinned i ⟨(s.leases.get i).generation, none, some ⟨.active, none, .pin,
    posOf (a.extractLsb' 0 6), c, 3, Config.openTerm, some s.counter, none, none, false, false, 0, none, false⟩⟩ _
    (leaseAt_of_freeEntry hi) rfl rfl rfl ⟨aligned_of_runFree hfree, fun m hm => absurd hm (by simp)⟩).reach ?_
  refine reach_mapSlots _ fun p x hx ⟨hg, hu, ho, hin⟩ => ?_
  split
  · next hp =>
    obtain ⟨-, -, hguard, -⟩ := (Slot.isFree_iff x).mp (isFree_of_runFree hfree hp hx)
    refine ⟨fun h => by simp [hguard] at h, fun h => by simp at h, fun j hj => ?_, hin⟩
    simp only [Option.some.injEq] at hj
    subst hj
    rw [leaseAt_set (s := s) (i := i) rfl, if_pos rfl]
    rfl
  · exact ⟨hg, hu, ho, hin⟩

theorem reach_unpinRun (a : Word) : Reach s (s.unpinRun a).state := by
  unfold unpinRun
  split
  · exact Reach.refl s
  · split
    · exact Reach.refl s
    · exact reach_retire s _ _

/-- The run that GRANT_TO finds is free (11, R200). -/
theorem runFree_of_grantToRun {c : LenClass} {b : BitVec 6} {p : Pos} (h : s.grantToRun c b = some p) :
    s.runFree c p = true := by
  unfold grantToRun at h
  split at h
  · exact runFree_of_placement h
  · split at h
    · next hf => rw [← Option.some.inj h]; exact hf
    · exact absurd h (by simp)

theorem reach_grantToRow (a b : Word) : Reach s (s.grantToRow a b).state := by
  unfold grantToRow
  dsimp only
  split
  swap
  · exact Reach.refl s
  next t c _ _ =>
  split
  · exact Reach.refl s
  split
  · exact Reach.refl s
  next hpresent =>
  split
  · exact Reach.refl s
  next hq =>
  have hquota : s.withinQuota t c = true := by simpa using hq
  split
  · exact Reach.refl s
  next i hi =>
  split
  · exact Reach.refl s
  next start hstart =>
  refine (reach_createLease (leaseAt_of_freeEntry hi) (by simp) hquota ?_ fun _ =>
    aligned_of_runFree (runFree_of_grantToRun hstart)).trans (reach_announce _ _ _)
  rw [not_not.mp hpresent]
  rfl

theorem reach_revokeLease (a : Word) : Reach s (s.revokeLease a).state := by
  unfold revokeLease
  dsimp only
  split
  · exact Reach.refl s
  · split
    · exact Reach.refl s
    · split
      · exact Reach.refl s
      · exact reach_retire s _ _
      · exact reach_endWithRevoked _ _ _
      · exact reach_endWithRevoked _ _ _

theorem reach_setQuotas (a : Word) : Reach s (s.setQuotas a).state := by
  unfold setQuotas
  dsimp only
  split
  · exact Reach.refl s
  next t _ =>
  split
  · exact Reach.refl s
  split
  · exact Reach.refl s
  next h =>
  obtain ⟨hslots, hleases⟩ := not_or.mp h
  exact reach_setEntry s t _ ⟨rfl, rfl, .inr (Nat.not_lt.mp hslots), .inr (Nat.not_lt.mp hleases), .inl rfl, .inl rfl⟩

theorem reach_barAddress (a : Word) (hm : s.due.missed = none) : Reach s (s.barAddress a).state := by
  unfold barAddress
  split
  · exact Reach.refl s
  · split
    · exact Reach.refl s
    · exact reach_holderRemoval _ _ _ hm

theorem reach_unbarAddress (a : Word) (hm : s.due.missed = none) : Reach s (s.unbarAddress a).state := by
  unfold unbarAddress
  split
  · exact Reach.refl s
  next t _ =>
  split
  · next hb =>
    refine reach_setEntry s t { s.entry t with state := .absent } ⟨rfl, rfl, .inl rfl, .inl rfl, .inr (.inr (.inl ?_)),
      .inr (.inr (.inr hm))⟩
    rw [hb]
    rfl
  · exact Reach.refl s

theorem reach_evictAddress (a : Word) (hm : s.due.missed = none) : Reach s (s.evictAddress a).state := by
  unfold evictAddress
  split
  · exact Reach.refl s
  · split
    · exact Reach.refl s
    · exact Reach.refl s
    all_goals exact reach_holderRemoval _ _ _ hm

theorem reach_clearQuarantine (a : Word) : Reach s (s.clearQuarantine a).state := by
  unfold clearQuarantine
  dsimp only
  split
  · exact Reach.refl s
  · refine (reach_mapSlots s fun p x _ hx => ?_).trans (reach_noteSpaceFreed _ _)
    split
    · exact recordOk_quarantine false hx
    · exact hx

theorem reach_startWorker (s : State) : Reach s s.startWorker.state := by
  unfold startWorker
  split
  · exact (Change.worker _ _ (by simp) (by simp)).reach
  · exact Reach.refl s

theorem reach_abortWorker (s : State) : Reach s s.abortWorker.state := by
  unfold abortWorker
  split
  · exact Reach.refl s
  · exact reach_endWorker s

theorem reach_flushList (s : State) : Reach s s.flushList.state := (Change.deferredMarked _).reach

/-- RESTART: the records, then the worker, the queues and the internal work (11, R209). -/
theorem reach_restartBus (hm : s.due.missed = none) : Reach s s.restartBus.state := by
  refine (Change.restarted hm).reach.trans ?_
  change Reach _ s.restartRecords.restartQueues.restartWorker
  generalize s.restartRecords = x
  have hworker : Reach x ((x.setWorker { x.worker with status := .off, underMove := none }).setStepReady false) :=
    (Change.worker _ _ (by simp) (by simp)).reach
  refine hworker.trans ?_
  refine (Change.requests [] (List.nil_sublist _)).reach.trans ((Change.deferred [] (List.nil_sublist _)).reach.trans ?_)
  refine (Change.notices [] (.inl (Nat.zero_le _))).reach.trans ?_
  refine (Change.engine ⟨.internal, Table.replicate 30 false, false, false⟩ rfl).reach.trans ?_
  refine (Change.uplinkCleared.reach.trans (Change.credited (Table.replicate 32 false)).reach).trans ?_
  exact (reach_setDue _ Due.nothing (.inl rfl)).trans (reach_raiseIf _ (decide (x.worker.status ≠ .off)) .compactEnd)

/-! ### The items -/

/-- A bus item whose act reaches its result from the state in which the message is taken. -/
theorem reach_busItem (act : Request → Option (State → State)) (hm : s.due.missed = none)
    (h : ∀ r f x, act r = some f → x.speaks r.sender = true → x.due.missed = none → Reach x (f x)) :
    Reach s (s.busItem act) := by
  have hhead : Reach s s.takeHead := (Change.requests _ (List.tail_sublist _)).reach.trans (reach_serve _ _)
  unfold busItem
  split
  · split
    · next f hf =>
      split
      · next hs => exact hhead.trans (h _ f _ hf hs hm)
      · exact hhead
    · exact Reach.refl s
  · exact Reach.refl s

/-- A command item whose act reaches its result from the state in which the command is taken. -/
theorem reach_commandItem (mine : Byte → Bool) (act : Word → Word → State → CommandReply) (hm : s.due.missed = none)
    (h : ∀ a b x, x.due.missed = none → Reach x (act a b x).state) : Reach s (s.commandItem mine act) := by
  unfold commandItem
  split
  · exact (reach_takeCommand s).trans ((h _ _ s.takeCommand hm).trans (reach_finish _))
  · exact Reach.refl s

end State

/-- An engine item reaches its result: no item adds to the request queue or opens the uplink receiver (03, R50). -/
theorem reach_itemRow {c : Instr} (hc : isItemRow c = true) {s t : State} (ht : itemRow c s = .next t) : s.Reach t := by
  have hear := State.reach_hear s
  have hm : s.hear.due.missed = none := by rw [State.due_hear]
  have bus : ∀ act, (∀ r f x, act r = some f → State.speaks r.sender x = true → x.due.missed = none → State.Reach x (f x)) →
      s.Reach (s.hear.busItem act) := fun act h => hear.trans (State.reach_busItem act hm h)
  have command : ∀ mine act, (∀ a b x, x.due.missed = none → State.Reach x (act a b x).state) →
      s.Reach (s.hear.commandItem mine act) := fun mine act h => hear.trans (State.reach_commandItem mine act hm h)
  cases c <;> simp only [isItemRow, Bool.false_eq_true] at hc <;>
    simp only [itemRow, execRequest, execWithdraw, execRenew, execRelease, execQuery, execLeave, execHolderRetirement,
      execCompactionStep, execReconsiderationPass, execPin, execUnpin, execGrantTo, execRevoke, execSetQuota, execBar,
      execUnbar, execEvict, execClearQ, execCompact, execCompactAbort, execFlushDeferred, execRestart, execUnknownCommand,
      State.commandRow, Host.Outcome.next.injEq] at ht <;> subst ht
  case request =>
    refine bus _ fun r f x h hs _ => ?_
    split at h <;> simp only [Option.some.injEq, reduceCtorEq] at h
    exact h ▸ State.reach_admitRequest hs
  case withdraw =>
    refine bus _ fun r f x h _ _ => ?_
    split at h <;> simp only [Option.some.injEq, reduceCtorEq] at h
    exact h ▸ State.reach_withdrawDeferred _
  case renew =>
    refine bus _ fun r f x h _ _ => ?_
    split at h <;> simp only [Option.some.injEq, reduceCtorEq] at h
    exact h ▸ State.reach_renewLease _ _ _
  case release =>
    refine bus _ fun r f x h _ _ => ?_
    split at h <;> simp only [Option.some.injEq, reduceCtorEq] at h
    exact h ▸ State.reach_releaseLease _ _
  case query =>
    refine bus _ fun r f x h _ _ => ?_
    split at h <;> simp only [Option.some.injEq, reduceCtorEq] at h
    exact h ▸ State.reach_queryLease _ _
  case leave =>
    refine bus _ fun r f x h _ hx => ?_
    split at h <;> simp only [Option.some.injEq, reduceCtorEq] at h
    exact h ▸ State.reach_holderRemoval _ _ _ hx
  case holderRetirement =>
    refine hear.trans ?_
    split
    · exact (State.reach_serve _ _).trans (State.reach_holderRemoval _ _ _ hm)
    · exact State.Reach.refl _
  case compactionStep =>
    refine hear.trans ?_
    split
    · exact (State.reach_serve _ _).trans (State.reach_compactOnce _)
    · exact State.Reach.refl _
  case reconsiderationPass =>
    refine hear.trans ?_
    split
    · exact (State.reach_serve _ _).trans (State.reach_reconsiderOnce _)
    · exact State.Reach.refl _
  case pin => exact command _ _ fun a _ x _ => State.reach_pinRun a
  case unpin => exact command _ _ fun a _ x _ => State.reach_unpinRun a
  case grantTo => exact command _ _ fun a b x _ => State.reach_grantToRow a b
  case revoke => exact command _ _ fun a _ x _ => State.reach_revokeLease a
  case setQuota => exact command _ _ fun a _ x _ => State.reach_setQuotas a
  case bar => exact command _ _ fun a _ x hx => State.reach_barAddress a hx
  case unbar => exact command _ _ fun a _ x hx => State.reach_unbarAddress a hx
  case evict => exact command _ _ fun a _ x hx => State.reach_evictAddress a hx
  case clearQ => exact command _ _ fun a _ x _ => State.reach_clearQuarantine a
  case compact => exact command _ _ fun _ _ x _ => State.reach_startWorker x
  case compactAbort => exact command _ _ fun _ _ x _ => State.reach_abortWorker x
  case flushDeferred => exact command _ _ fun _ _ x _ => State.reach_flushList x
  case restart => exact command _ _ fun _ _ x hx => State.reach_restartBus hx
  case unknownCommand => exact command _ _ fun _ _ x _ => State.Reach.refl x

end Sys2Proof.Machine
end

section
/-!
PROOFS. What the generator, the port, the uplink receiver and the frame start reach (`Reach`, `UplinkStep`), and so what any
command but power-on reset does.
-/
namespace Sys2Proof.Machine

namespace State

/-- What the uplink receiver takes: the bits received in a frame, with the message appended to the request queue where it is
accepted (08, R161, R163), or the copies of a frame's marker (08, R160). -/
inductive UplinkStep (s : State) : State → Prop
  | arrival (bits : BitVec 64) (h : s.uplink.received = none) :
      UplinkStep s (s.setUplink { s.uplink with received := some bits })
  | accepted (bits : BitVec 64) (r : Request) (h : s.uplink.received = none) (hopen : s.uplink.uplinkOpen = some true)
      (hnew : s.hasRequest r.sender = false) :
      UplinkStep s ((s.setUplink { s.uplink with received := some bits }).setRequests (s.requests ++ [r]))
  | marked (turn : Option Turn) (isOpen : Bool) (h : isOpen = true → s.requests.length < 12) :
      UplinkStep s (s.setUplink ⟨turn, some isOpen, none⟩)

variable {s : State}

/-! ### The generator (06) -/

theorem reach_requestStart (s : State) : Reach s s.requestStart := by
  unfold requestStart
  split
  · next hs =>
    refine (Change.fg _ fun ⟨h, _, hoff, _⟩ => ?_).reach
    exact ⟨by simp, by simp, by simp, fun _ => ⟨(h hs).1, (h hs).2.2⟩⟩
  all_goals exact reach_raise s _

/-- The generator is HALTED between its frames (06, R121). -/
theorem reach_becomeHalted (hp : s.fg.phase = .between) : Reach s s.becomeHalted := by
  refine Reach.trans (Change.fg _ fun _ => ?_).reach (reach_raise _ _)
  exact ⟨by simp, fun _ => hp, fun _ => ⟨rfl, rfl⟩, fun h => absurd (hp.symm.trans h) (by simp)⟩

theorem reach_requestHalt (s : State) : Reach s s.requestHalt := by
  unfold requestHalt
  split
  · split
    · next hp => exact reach_becomeHalted hp
    all_goals exact (Change.fg _ fun ⟨_, _, _, hz⟩ => ⟨by simp, by simp, by simp, hz⟩).reach
  all_goals exact reach_raise s _

theorem reach_requestResume (s : State) : Reach s s.requestResume := by
  unfold requestResume
  split
  · next hs =>
    refine (Change.fg _ fun ⟨_, hh, _, _⟩ => ?_).reach
    exact ⟨by simp, by simp, by simp, fun h => absurd ((hh hs).symm.trans h) (by simp)⟩
  · exact (Change.fg _ fun ⟨_, _, _, hz⟩ => ⟨by simp, by simp, by simp, hz⟩).reach
  all_goals exact reach_raise s _

theorem reach_frameRequest (r : BitVec 2) : Reach s (s.frameRequest r) := by
  unfold frameRequest
  split
  · exact reach_requestStart s
  split
  · exact reach_requestHalt s
  split
  · exact reach_requestResume s
  · exact Reach.refl s

/-- A frame begins (06, R126). -/
theorem reach_openFrame (hf : s.frameFollows) : Reach s s.openFrame := by
  have hrun : s.fg.state ≠ .stopped ∧ s.fg.state ≠ .halted := by
    rcases hf with ⟨h, -⟩ | ⟨h, -⟩ <;> simp [h]
  refine Reach.trans (Change.fg { s.fg with counter := s.nextCounter, phase := .inFrame } fun _ => ?_).reach
    (reach_setDue _ _ (.inr rfl))
  exact ⟨fun h => absurd h hrun.1, fun h => absurd h hrun.2, fun h => (h.elim hrun.1 hrun.2).elim,
    fun h => absurd h (by simp)⟩

/-- A frame in progress ends, or its marker is built: the generator is neither STOPPED nor HALTED. -/
theorem active_of_inFrame (h : s.GeneratorLaw) (hp : s.fg.phase = .inFrame) :
    s.fg.state ≠ .stopped ∧ s.fg.state ≠ .halted := by
  refine ⟨fun hs => ?_, fun hs => ?_⟩
  · exact absurd (hp.symm.trans (h.1 hs).2.1) (by simp)
  · exact absurd (hp.symm.trans (h.2.1 hs)) (by simp)

/-! ### Claims (09) -/

theorem reach_judgeClaim (p : Nat) : Reach s (s.judgeClaim p) := by
  have htrespass : ∀ x, Reach s (s.trespass p x) := by
    intro x
    refine (reach_mapSlots s fun q y _ hy => ?_).trans (reach_raiseIf _ _ _)
    split
    · exact recordOk_quarantine true hy
    · exact hy
  unfold judgeClaim
  split
  · exact Reach.refl s
  split
  · exact htrespass _
  split
  · split
    · exact (Change.credited _).reach
    · exact Reach.refl s
  · exact Reach.refl s

theorem reach_sample (p : Pos) : Reach s (s.sample p) := by
  unfold sample
  split
  · exact reach_raise s _
  · exact reach_judgeClaim _

/-- The verdict writes the use fields of leases (09, R177). -/
theorem leaseKept_judgeEntry (credited : Table Bool 32) (k : Nat) (e : LeaseEntry) :
    LeaseKept e.lease (judgeEntry credited k e).lease := by
  unfold judgeEntry
  split
  · next l hl =>
    split
    · refine .inr ⟨l, _, hl, rfl, ?_⟩
      unfold useFields
      split
      all_goals exact .of_eq rfl rfl rfl rfl fun m hm => ⟨m, hm, rfl⟩
    · exact .inl rfl
  · exact .inl rfl

theorem reach_closeFrame (hp : s.fg.phase = .inFrame) : Reach s s.closeFrame := by
  unfold closeFrame
  refine (Change.leases (s.leases.mapFrom (judgeEntry s.credited) 0) fun i => ?_).reach.trans ?_
  rotate_left
  · dsimp only
    generalize (s.setLeases (s.leases.mapFrom (judgeEntry s.credited) 0)).verdictOf = f
    refine Reach.trans (reach_setDue (s.setLeases _) { s.due with reclaims := allLeases.filterMap f } (.inr rfl)) ?_
    refine Reach.trans (Change.credited (Table.replicate 32 false)).reach (Change.fg _ fun h => ?_).reach
    obtain ⟨hstop, hhalt⟩ := active_of_inFrame h hp
    exact ⟨fun h => absurd h hstop, fun h => absurd h hhalt, fun h => (h.elim hstop hhalt).elim,
      fun h => absurd h (by simp)⟩
  · rw [Table.get_mapFrom]
    exact leaseKept_judgeEntry _ _ _

theorem reach_takeReclaim (r : EndReason) : Reach s (s.takeReclaim r) := by
  unfold takeReclaim
  split
  · exact Reach.refl s
  · next xs _ =>
    exact (reach_setDue _ { s.due with reclaims := s.due.reclaims.drop xs.length } (.inr rfl)).trans
      (reach_reclaimAll _ _)

/-! ### The port (10) -/

/-- A field that was in its range, or accepted as written, is in its range. -/
theorem judgeField_of {n : Nat} {P : BitVec n → Prop} {old new : BitVec n} {b : Bool} (hold : P old)
    (hnew : b = true → P new) : P (judgeField old new b) := by
  unfold judgeField accepts
  split
  · next h =>
    rw [Bool.or_eq_true, decide_eq_true_eq] at h
    rcases h with h | h
    · exact h ▸ hold
    · exact hnew h
  · exact hold

theorem reach_writeTiming (w : PortWrite) : Reach s (s.writeTiming w) := by
  refine Reach.trans (Change.settings _ fun ⟨hd, hd', hk, hk', hm, hu, hw, hx⟩ => ?_).reach (reach_raiseIf _ _ _)
  have hdBoth := judgeField_of (P := fun d => 2 ≤ d.toNat ∧ d.toNat ≤ 7) (new := (w.merge s.timingWord).extractLsb' 0 4)
    (b := dInRange s.fg.state ((w.merge s.timingWord).extractLsb' 0 4)) ⟨hd, hd'⟩ (by simp [dInRange]; omega)
  have hkBoth := judgeField_of (P := fun k => 4 ≤ k.toNat ∧ k.toNat ≤ 32) (new := (w.merge s.timingWord).extractLsb' 8 6)
    (b := kInRange ((w.merge s.timingWord).extractLsb' 8 6)) ⟨hk, hk'⟩ (by simp [kInRange])
  exact ⟨hdBoth.1, hdBoth.2, hkBoth.1, hkBoth.2,
    judgeField_of (P := fun m => 2 ≤ m.toNat) hm (by simp [mInRange]),
    judgeField_of (P := fun u => u ≠ 0) hu (by simp [notZero]), hw, hx⟩

theorem reach_writeLimits (w : PortWrite) : Reach s (s.writeLimits w) := by
  refine Reach.trans (Change.settings _ fun ⟨hd, hd', hk, hk', hm, hu, hw, hx⟩ => ?_).reach (reach_raiseIf _ _ _)
  exact ⟨hd, hd', hk, hk', hm, hu, judgeField_of (P := fun u => u ≠ 0) hw (by simp [notZero]),
    judgeField_of (P := fun u => u ≠ 0) hx (by simp [notZero])⟩

theorem reach_writeCmd (w : PortWrite) : Reach s (s.writeCmd w) := by
  unfold writeCmd
  dsimp only
  split
  · exact (Change.cmd _).reach
  · exact (Change.cmd _).reach
  · exact reach_raise s _
  · exact reach_raise s _

/-- An update of the port's registers that leaves its kept phase and its transaction. -/
theorem reach_setPort (v : Port) (ho : v.keptOffset = s.port.keptOffset) (hc : v.keptCount = s.port.keptCount)
    (hx : v.transaction = s.port.transaction) : Reach s (s.setPort v) := by
  refine (Change.port v fun ⟨h1, h2, h3, h4⟩ => ?_).reach
  rw [PortLaw, port_setPort, ho, hc, hx]
  exact ⟨h1, h2, h3, h4⟩

/-- A completed write of any register (10, R183). -/
theorem reach_writeRegister (r : Register) (w : PortWrite) : Reach s (s.writeRegister r w) := by
  cases r with
  | control =>
    exact (Change.settings { s.settings with
      preemptEn := if w.covers 1 then w.value.getLsbD 8 else s.settings.preemptEn } fun h => h).reach.trans
        (reach_frameRequest _)
  | attention => exact (Change.attention _).reach
  | attnEn => exact (Change.attnEn _).reach
  | timing => exact reach_writeTiming w
  | limits => exact reach_writeLimits w
  | arg0 => exact reach_setPort { s.port with arg0 := _ } rfl rfl rfl
  | arg1 => exact reach_setPort { s.port with arg1 := _ } rfl rfl rfl
  | cmd => exact reach_writeCmd w
  | viewSelect => exact (reach_finishEvents s).trans (reach_setPort _ rfl rfl rfl)
  | ident => exact Reach.refl s
  | status => exact Reach.refl s
  | frame => exact Reach.refl s
  | result => exact Reach.refl s
  | view0 => exact Reach.refl s
  | view1 => exact Reach.refl s
  | view2 => exact Reach.refl s
  | view3 => exact Reach.refl s

/-- A transaction that receives nothing keeps the port's law. -/
theorem reach_setTransaction {x : PortTransaction} (hx : ∀ o c d, x ≠ .receiving o c d) : Reach s (s.setTransaction x) :=
  (Change.port _ fun ⟨ho, hc, hc', _⟩ => ⟨ho, hc, hc', fun o c d h => absurd h (hx o c d)⟩).reach

/-- An acknowledged phase is kept, with its transaction (10, R184). -/
theorem reach_keepPhase {o c : Byte} {x : PortTransaction} (ho : offsetNamed o = true) (hc : countNamed c = true)
    (hx : ∀ o' c' d, x = .receiving o' c' d → o' = o ∧ c' = c ∧ d.length ≤ c.toNat) :
    Reach s ((s.keepPhase o c).setTransaction x) := by
  rw [countNamed, Bool.and_eq_true, decide_eq_true_eq, decide_eq_true_eq] at hc
  refine (Change.port { s.port with keptOffset := o, keptCount := c, transaction := x } fun _ => ⟨ho, hc.1, hc.2,
    fun o' c' d h => ?_⟩).reach
  obtain ⟨h1, h2, h3⟩ := hx o' c' d h
  exact ⟨h1, h2, h2 ▸ h3⟩

theorem reach_portWrite (o : Byte) (w : PortWrite) (stopped : Bool) : Reach s (s.portWrite o w stopped) := by
  unfold portWrite
  split
  · exact reach_setTransaction fun _ _ _ => by split <;> simp
  next r hr =>
  unfold acknowledged at hr
  split at hr
  swap
  · exact absurd hr (by simp)
  next hc =>
  have ho : offsetNamed o = true := by rw [← registerAt_isSome, hr]; rfl
  have hphase : Reach s ((s.keepPhase o w.count).setTransaction
      (if stopped then .idle else .receiving o w.count (w.data.take w.count.toNat))) := by
    refine reach_keepPhase ho hc.2 fun o' c' d h => ?_
    split at h
    · exact absurd h (by simp)
    · simp only [PortTransaction.receiving.injEq] at h
      obtain ⟨rfl, rfl, rfl⟩ := h
      exact ⟨rfl, rfl, List.length_take_le _ _⟩
  dsimp only
  split
  · exact hphase
  · exact hphase.trans (reach_writeRegister r w)

theorem reach_portBytes (data : List Byte) : Reach s (s.portBytes data) := by
  unfold portBytes
  split
  swap
  · exact Reach.refl s
  next o c old hx =>
  have hbytes : Reach s (s.setTransaction (.receiving o c ((old ++ data).take c.toNat))) := by
    refine (Change.port _ fun ⟨ho, hc, hc', hr⟩ => ⟨ho, hc, hc', fun o' c' d h => ?_⟩).reach
    simp only [port_setPort, PortTransaction.receiving.injEq] at h
    obtain ⟨rfl, rfl, rfl⟩ := h
    obtain ⟨h1, h2, -⟩ := hr _ _ _ hx
    exact ⟨h1, h2, List.length_take_le _ _⟩
  dsimp only
  split
  · split
    · exact hbytes.trans (reach_writeRegister _ _)
    · exact hbytes
  · exact hbytes

theorem reach_portRead (device : BitVec 7) : Reach s (s.portRead device) := by
  unfold portRead
  split
  · exact (reach_finishEvents s).trans (reach_setTransaction fun _ _ _ => by simp)
  · exact reach_setTransaction fun _ _ _ => by simp

theorem reach_portEvent (o : Byte) (e : PortEvent) : Reach s (s.portEvent o e) := by
  cases e with
  | whole w => exact reach_portWrite o w true
  | begun w => exact reach_portWrite o w false
  | bytes data => exact reach_portBytes data
  | readAddress device => exact reach_portRead device
  | answer a =>
    change Reach s (s.portAnswer a)
    unfold portAnswer
    split
    · next hx => exact reach_setTransaction fun _ _ _ => by split <;> simp
    · exact Reach.refl s
  | stop => exact reach_setTransaction fun _ _ _ => by simp

/-! ### The uplink (07; 08) -/

theorem reach_missTurn (t : Trib) : Reach s (s.missTurn t) := by
  unfold missTurn
  dsimp only
  split
  swap
  · exact Reach.refl s
  next hs =>
  have hcount : Reach s (s.setEntry t { s.entry t with missed := (s.entry t).missed + 1 }) :=
    reach_setEntry s t _ (.of_eq rfl rfl rfl rfl rfl)
  have hspeaks : (s.setEntry t { s.entry t with missed := (s.entry t).missed + 1 }).speaks t = true := by
    rw [speaks_iff] at hs ⊢
    simpa [entry, setEntry] using hs
  have hlimit : ∀ (d : Due) (r : MissedLimit), d.missed = some (t, r) →
      Reach s ((s.setEntry t { s.entry t with missed := (s.entry t).missed + 1 }).setDue d) := by
    intro d r hd
    refine hcount.trans (Change.due d fun u r' h => .inr ?_).reach
    rw [hd, Option.some.injEq, Prod.mk.injEq] at h
    exact h.1 ▸ hspeaks
  split
  · exact hlimit _ _ rfl
  · split
    · exact hlimit _ _ rfl
    · exact hcount

theorem reach_answerTurn (t : Trib) : Reach s (s.answerTurn t) :=
  (reach_setEntry_present t { s.entry t with missed := 0, state := .present } rfl rfl rfl rfl rfl).trans
    (reach_raiseIf _ _ _)

theorem reach_join (t : Trib) (identity : BitVec 16) (seq : Bool) : Reach s (s.join t identity seq) := by
  have hjoined : Reach s (s.joined t identity seq) :=
    (reach_setEntry_present t { s.entry t with
      state := .present, identity := some identity, missed := 0, lastSeq := none, reply := none } rfl rfl rfl rfl rfl).trans
      ((reach_inform _ _).trans (reach_raiseIf _ _ _))
  have hrefused : ∀ r, Reach s (s.refuseJoin t identity seq r) := fun r => reach_inform s _
  have hroom : ∀ room : Bool, Reach s (if room = true then s.joined t identity seq else s) := fun room => by
    split
    · exact hjoined
    · exact Reach.refl s
  have hknown : ∀ (known : Prop) [Decidable known] (room : Bool), Reach s (if known then (if room = true
      then s.joined t identity seq else s) else s.refuseJoin t identity seq .addressInUse) := fun known _ room => by
    split
    · exact hroom room
    · exact hrefused _
  unfold join
  split
  · exact Reach.refl s
  · dsimp only
    cases (s.entry t).state with
    | absent => exact hroom _
    | present => exact hknown _ _
    | silent => exact hknown _ _
    | leaving => exact hrefused _
    | barred => exact hrefused _

/-- A message of the turn's owner is answered, discarded, or appended to the request queue (07, R145). -/
theorem takeMessage_cases (t : Trib) (m : Message) (seq : Bool) :
    Reach s (s.takeMessage t m seq) ∨ (s.uplink.uplinkOpen = some true ∧ s.hasRequest t = false ∧
      ∃ e, s.EntryKept t e ∧ s.takeMessage t m seq = (s.setEntry t e).appendRequest t m seq) := by
  unfold takeMessage
  split
  swap
  · exact .inl (Reach.refl s)
  next hopen =>
  split
  · split
    · exact .inl (Reach.refl s)
    · next hnew =>
      refine .inr ⟨hopen, by simpa using hnew, s.entry t, .of_eq rfl rfl rfl rfl rfl, ?_⟩
      have : s.setEntry t (s.entry t) = s := by
        have hcells : (s.roster.set t (s.entry t)) = s.roster := by
          refine Table.ext_cells (List.ext_getElem? fun k => ?_)
          simp [Table.set, entry, Table.get]
        rw [setEntry, hcells, setRoster_self]
      rw [this]
  · split
    · split
      · exact .inl (reach_submit s _)
      · exact .inl (Reach.refl s)
    · split
      · exact .inl (Reach.refl s)
      · next hnew =>
        exact .inr ⟨hopen, by simpa using hnew, { s.entry t with lastSeq := some seq, reply := none },
          .of_eq rfl rfl rfl rfl rfl, rfl⟩

/-- The message of the turn's owner: as `takeMessage_cases`, for the kinds that the engine takes. -/
theorem ownerMessage_cases (t : Trib) (m : UplinkMessage) :
    Reach s (s.ownerMessage t m) ∨ (s.uplink.uplinkOpen = some true ∧ s.hasRequest t = false ∧
      ∃ e msg, s.EntryKept t e ∧ s.ownerMessage t m = (s.setEntry t e).appendRequest t msg m.seq) := by
  have htake : ∀ msg, Reach s (s.takeMessage t msg m.seq) ∨ (s.uplink.uplinkOpen = some true ∧ s.hasRequest t = false ∧
      ∃ e msg', s.EntryKept t e ∧ s.takeMessage t msg m.seq = (s.setEntry t e).appendRequest t msg' m.seq) := by
    intro msg
    refine (takeMessage_cases t msg m.seq).imp_right ?_
    rintro ⟨h1, h2, e, h3, h4⟩
    exact ⟨h1, h2, e, msg, h3, h4⟩
  unfold ownerMessage
  split
  · exact .inl (Reach.refl s)
  · exact .inl (Reach.refl s)
  · exact .inl (Reach.refl s)
  · split
    · exact .inl (reach_inform s _)
    · exact htake _
  · exact htake _

/-- The arrival of a frame's bits with what the roster unit makes of them (08, R161). -/
theorem classify_reach (bits : BitVec 64) (m : UplinkMessage) (hrec : s.uplink.received = none) :
    ∃ u, UplinkStep s u ∧ Reach u ((s.setUplink { s.uplink with received := some bits }).classify m) := by
  have hplain : ∀ {t}, Reach (s.setUplink { s.uplink with received := some bits }) t → ∃ u, UplinkStep s u ∧ Reach u t :=
    fun h => ⟨_, .arrival bits hrec, h⟩
  unfold classify
  split
  · exact hplain (Reach.refl _)
  · split
    · split
      · exact hplain (reach_join _ _ _)
      · exact hplain (Reach.refl _)
    · exact hplain (Reach.refl _)
  next t _ =>
  split
  · split
    swap
    · exact hplain (Reach.refl _)
    rcases ownerMessage_cases (s := (s.setUplink { s.uplink with received := some bits }).answerTurn t) t m with
      h | ⟨hopen, hnew, e, msg, he, heq⟩
    · exact hplain ((reach_answerTurn t).trans h)
    · rw [heq]
      generalize hx : s.setUplink { s.uplink with received := some bits } = x at he
      have hlist : x.requests = s.requests ∧ x.counter = s.counter := by rw [← hx]; exact ⟨rfl, rfl⟩
      refine ⟨_, .accepted bits ⟨t, msg, m.seq, s.counter⟩ hrec ?_ ?_, ?_⟩
      · simpa [answerTurn] using hopen
      · simpa [answerTurn, hasRequest] using hnew
      · rw [hx]
        have hcomm : (x.setRequests (s.requests ++ [⟨t, msg, m.seq, s.counter⟩])).answerTurn t =
            (x.answerTurn t).setRequests (s.requests ++ [⟨t, msg, m.seq, s.counter⟩]) := by
          simp only [answerTurn, raiseIf_form]
          rfl
        have happend : ((x.answerTurn t).setEntry t e).appendRequest t msg m.seq =
            ((x.answerTurn t).setRequests (s.requests ++ [⟨t, msg, m.seq, s.counter⟩])).setEntry t e := by
          simp only [answerTurn, raiseIf_form, appendRequest, ← hlist.1, ← hlist.2]
          rfl
        rw [happend, ← hcomm]
        refine (reach_answerTurn t).trans (reach_setEntry _ t e ?_)
        rw [hcomm]
        exact ⟨he.1, he.2, he.3, he.4, he.5, he.6⟩
  · exact hplain (reach_missTurn _)

/-! ### The frame start (06, R126) -/

theorem reach_takeItem (s : State) : Reach s s.takeItem := by
  unfold takeItem
  dsimp only
  split
  · exact reach_hear s
  · split
    · next u hu => exact (reach_hear s).trans (reach_itemRow (isItemRow_rowOfWork _ _) hu)
    · exact reach_hear s

theorem reach_takeStep (x : FrameStep) : Reach s (s.takeStep x) := by
  cases x with
  | react r => exact reach_takeReaction s r
  | item => exact reach_takeItem s

theorem reach_takeSteps (l : List FrameStep) (s : State) : Reach s (takeSteps l s) :=
  Reach.foldl (fun _ x => reach_takeStep x) l s

theorem takeSteps_append (l m : List FrameStep) (s : State) : takeSteps (l ++ m) s = takeSteps m (takeSteps l s) :=
  List.foldl_append

/-- The first steps of a list lead on to all of them. -/
theorem reach_takeSteps_take (l : List FrameStep) (k : Nat) (s : State) :
    Reach (takeSteps (l.take k) s) (takeSteps l s) := by
  conv => rhs; rw [← List.take_append_drop k l, takeSteps_append]
  exact reach_takeSteps _ _

/-- No change but an arrival adds to the request queue. -/
theorem Reach.requests_le {s t : State} (h : Reach s t) : t.requests.length ≤ s.requests.length := by
  refine h.keeps (P := fun x => x.requests.length ≤ s.requests.length) (fun x y hc hx => ?_) (Nat.le_refl _)
  cases hc with
  | requests l hl => exact Nat.le_trans hl.length_le hx
  | _ => exact hx

/-- The frame start: what its steps and its sending reach, and the marker where the frame is still in progress. -/
theorem frameStart_reach (order : FrameOrder) (hf : s.frameFollows) :
    Reach s (s.frameStart order) ∨ ∃ u v, Reach s u ∧ UplinkStep u v ∧ Reach v (s.frameStart order) := by
  have hbefore : Reach s (takeSteps order.before s.openFrame) := (reach_openFrame hf).trans (reach_takeSteps _ _)
  unfold frameStart
  dsimp only
  split
  swap
  · exact .inl hbefore
  generalize hu : (takeSteps order.before s.openFrame).sendNotice.markCopies = u
  have hsent : Reach (takeSteps order.before s.openFrame) u := hu ▸ (reach_sendNotice _).trans (reach_markCopies _)
  have hafter : Reach s (takeSteps order.after u) := (hbefore.trans hsent).trans (reach_takeSteps _ _)
  split
  swap
  · exact .inl hafter
  next hp =>
  have hread : ∀ k, Reach (afterSteps order s.openFrame u k) (takeSteps order.after u) := by
    intro k
    unfold afterSteps
    split
    · exact (reach_takeSteps_take _ _ _).trans (hsent.trans (reach_takeSteps _ _))
    · exact reach_takeSteps_take _ _ _
  refine .inr ⟨_, _, hafter, .marked (some (afterSteps order s.openFrame u order.turnAt).chosenTurn)
    (afterSteps order s.openFrame u order.readAt).uplinkOpenNow ?room, ?built⟩
  case room =>
    intro h
    exact Nat.lt_of_le_of_lt (hread _).requests_le (of_decide_eq_true h)
  case built =>
    generalize takeSteps order.after u = t at hp
    generalize (afterSteps order s.openFrame u order.turnAt).chosenTurn = turn
    refine Reach.trans (t := (t.setUplink ⟨some turn, some (afterSteps order s.openFrame u order.readAt).uplinkOpenNow,
      none⟩).advancePointer turn) ?_ ?_
    · cases turn with
      | anyone => exact Reach.refl _
      | owner a => exact (Change.turnPointer _).reach
    · have hfg : ((t.setUplink ⟨some turn, some (afterSteps order s.openFrame u order.readAt).uplinkOpenNow,
          none⟩).advancePointer turn).fg = t.fg := by cases turn <;> rfl
      refine Reach.trans (Change.fg { t.fg with
        resumed := false
        marker := some (markerWord t.counter turn (afterSteps order s.openFrame u order.readAt).uplinkOpenNow t.fg.resumed
          (takeSteps order.before s.openFrame).sentNotice.isSome)
        downlink := some (downlinkWord (takeSteps order.before s.openFrame).sentNotice) } fun h => ?law).reach ?same
      case law =>
        obtain ⟨hstop, hhalt⟩ := active_of_inFrame h (hfg ▸ hp)
        rw [hfg] at hstop hhalt
        exact ⟨fun h => absurd h hstop, fun h => absurd h hhalt, fun h => (h.elim hstop hhalt).elim,
          fun h => absurd (hp.symm.trans h) (by simp)⟩
      case same =>
        cases turn <;> exact Reach.refl _

end State

/-! ### Every command -/

/-- What a command but power-on reset does: changes of the records, with one event of the uplink receiver among them in an
arrival or a frame start. -/
theorem exec_reach {c : Instr} {s t : State} (hc : ∀ straps, c ≠ .powerOnReset straps) (ht : exec c s = .next t) :
    s.Reach t ∨ ∃ u v, s.Reach u ∧ u.UplinkStep v ∧ v.Reach t := by
  by_cases hitem : isItemRow c = true
  · rw [← itemRow_eq_exec hitem] at ht
    exact .inl (reach_itemRow hitem ht)
  have settle := State.reach_settle s
  cases c <;> simp only [isItemRow, not_true_eq_false] at hitem
  case powerOnReset straps => exact absurd rfl (hc straps)
  all_goals
    simp only [exec, execStartRequest, execHaltRequest, execResumeRequest, execHaltComplete, execFrameStart,
      execOwnerUntilVacate, execGuardEnd, execIncomingGoLive, execUntilWriteInRange, execMoveTermEndRemoval, execWaitExpiry,
      execUplinkArrival, execMissedTurnLimit, execClaimSample, execFrameClose, execNotTakenUpReclaim, execIdleReclaim,
      execTimingWrite, execLimitsWrite, execAttentionWrite, execViewSelectWrite, execRegisterWrite, execCmdWrite,
      Host.Outcome.next.injEq] at ht
    subst ht
  case startRequest => exact .inl (State.reach_portWrite _ _ _)
  case haltRequest => exact .inl (State.reach_portWrite _ _ _)
  case resumeRequest => exact .inl (State.reach_portWrite _ _ _)
  case timingWrite => exact .inl (State.reach_portWrite _ _ _)
  case limitsWrite => exact .inl (State.reach_portWrite _ _ _)
  case attentionWrite => exact .inl (State.reach_portWrite _ _ _)
  case viewSelectWrite => exact .inl (State.reach_portWrite _ _ _)
  case cmdWrite => exact .inl (State.reach_portWrite _ _ _)
  case registerWrite => exact .inl (State.reach_portEvent _ _)
  case ownerUntilVacate => exact .inl (State.reach_takeVacate s)
  case guardEnd => exact .inl (State.reach_takeGuardEnd s)
  case incomingGoLive => exact .inl (State.reach_takeGoLive s)
  case untilWriteInRange => exact .inl (State.reach_takeUntils s)
  case moveTermEndRemoval => exact .inl (State.reach_takeMoveEnds s)
  case waitExpiry => exact .inl (State.reach_takeWaits s)
  case missedTurnLimit => exact .inl (State.reach_takeMissed s)
  case notTakenUpReclaim => exact .inl (State.reach_takeReclaim _)
  case idleReclaim => exact .inl (State.reach_takeReclaim _)
  case haltComplete =>
    refine .inl (settle.trans ?_)
    split
    · next h => exact State.reach_becomeHalted h.2
    · exact State.Reach.refl _
  case claimSample =>
    refine .inl (settle.trans ?_)
    split
    · exact State.reach_sample _
    · exact State.Reach.refl _
  case frameClose =>
    refine .inl (settle.trans ?_)
    split
    · next h => exact State.reach_closeFrame h
    · exact State.Reach.refl _
  case uplinkArrival bits =>
    split
    · next h =>
      obtain ⟨u, hu, hr⟩ := State.classify_reach bits (parseUplink bits) h.2
      exact .inr ⟨_, u, settle, hu, hr⟩
    · exact .inl settle
  case frameStart order =>
    split
    · next h =>
      rcases State.frameStart_reach order ((State.frameStartFollows_iff _).mp h) with hr | ⟨u, v, hu, huv, hv⟩
      · exact .inl (settle.trans hr)
      · exact .inr ⟨u, v, settle.trans hu, huv, hv⟩
    · exact .inl settle

end Sys2Proof.Machine
end

section
/-!
PROOFS. The invariants: each holds after reset, and is kept by every change of the records and by the uplink receiver's events.
-/
namespace Sys2Proof.Machine

/-- What power-on reset leaves, what every change keeps and what the uplink receiver's events keep, every step keeps; the
commands that wait are no part of it. -/
theorem step_keeps {P : State → Prop} (hwait : ∀ s l, P s → P (s.setPending l))
    (hreset : ∀ straps, P (State.reset.setPort { State.reset.port with straps := straps }))
    (hchange : ∀ s t, s.Change t → P s → P t) (huplink : ∀ s t, s.UplinkStep t → P s → P t) :
    ∀ s t, P s → step s = .next t → P t := by
  intro s t hs ht
  have hexec : ∀ c x, P x → exec c x = .next t → P t := by
    intro c x hx h
    by_cases hc : ∃ straps, c = .powerOnReset straps
    · obtain ⟨straps, rfl⟩ := hc
      rw [exec_powerOnReset, Host.Outcome.next.injEq] at h
      exact h ▸ hwait _ _ (hreset straps)
    · rcases exec_reach (fun straps h => hc ⟨straps, h⟩) h with hr | ⟨u, v, hu, huv, hv⟩
      · exact hr.keeps hchange hx
      · exact hv.keeps hchange (huplink u v huv (hu.keeps hchange hx))
  unfold step at ht
  split at ht
  · rw [Host.Outcome.next.injEq] at ht
    exact ht ▸ hs
  · exact hexec _ _ (hwait _ _ hs) ht

namespace State

/-! ### The queues (03, R55, R57; 04, R75, R76; 08, R164) -/

/-- Insertion by rank puts one entry into the list. -/
theorem insertRanked_perm (d : Deferred) (l : List Deferred) : (insertRanked d l).Perm (d :: l) := by
  unfold insertRanked
  refine List.perm_middle.trans (List.Perm.cons d ?_)
  rw [List.take_append_drop]

/-- Insertion by rank keeps the list in order of priority (04, R76). -/
theorem insertRanked_sorted {d : Deferred} {l : List Deferred} (h : l.Pairwise fun a b => b.priority ≤ a.priority) :
    (insertRanked d l).Pairwise fun a b => b.priority ≤ a.priority := by
  induction l with
  | nil => simp [insertRanked, rankOf]
  | cons a as ih =>
    obtain ⟨ha, has⟩ := List.pairwise_cons.mp h
    by_cases hp : d.priority ≤ a.priority
    · have hstep : insertRanked d (a :: as) = a :: insertRanked d as := by simp [insertRanked, rankOf, hp]
      rw [hstep, List.pairwise_cons]
      refine ⟨fun b hb => ?_, ih has⟩
      rcases List.mem_cons.mp ((insertRanked_perm d as).mem_iff.mp hb) with rfl | hb
      · exact hp
      · exact ha b hb
    · have hstep : insertRanked d (a :: as) = d :: a :: as := by simp [insertRanked, rankOf, hp]
      rw [hstep, List.pairwise_cons]
      refine ⟨fun b hb => ?_, h⟩
      have hle : a.priority ≤ d.priority := BitVec.le_of_lt (BitVec.not_le.mp hp)
      rcases List.mem_cons.mp hb with rfl | hb
      · exact hle
      · exact BitVec.le_trans (ha b hb) hle

theorem queueLaw_change {s t : State} (hc : Change s t) (h : s.QueueLaw) : t.QueueLaw := by
  have ⟨hr, hrs, hd, hds, hord, hn, hroom⟩ := h
  cases hc with
  | uplinkCleared => exact ⟨hr, hrs, hd, hds, hord, hn, fun h => absurd h (by simp)⟩
  | requests l hl =>
    exact ⟨hl.length_le.trans hr, hrs.sublist (hl.map _), hd, hds, hord, hn,
      fun h1 h2 => Nat.lt_of_le_of_lt hl.length_le (hroom h1 h2)⟩
  | deferred l hl =>
    exact ⟨hr, hrs, hl.length_le.trans hd, hds.sublist (hl.map _), hord.sublist hl, hn, hroom⟩
  | deferredMarked w =>
    refine ⟨hr, hrs, ?_, ?_, ?_, hn, hroom⟩
    · simpa using hd
    · simpa [Function.comp_def] using hds
    · simpa [List.pairwise_map] using hord
  | deferredRanked l d hl hlen hnew =>
    have hperm := insertRanked_perm d l
    refine ⟨hr, hrs, ?_, ?_, insertRanked_sorted (hord.sublist hl), hn, hroom⟩
    · simp only [deferred_setDeferred, hperm.length_eq, List.length_cons]
      omega
    · rw [deferred_setDeferred, (hperm.map Deferred.sender).nodup_iff, List.map_cons, List.nodup_cons]
      refine ⟨fun hmem => ?_, hds.sublist (hl.map _)⟩
      obtain ⟨x, hx, hxd⟩ := List.mem_map.mp hmem
      exact hnew x (hl.subset hx) hxd
  | notices l hl =>
    refine ⟨hr, hrs, hd, hds, hord, ?_, hroom⟩
    rw [notices_setNotices]
    omega
  | _ => exact h

theorem queueLaw_uplinkStep {s t : State} (hu : UplinkStep s t) (h : s.QueueLaw) : t.QueueLaw := by
  obtain ⟨hr, hrs, hd, hds, hord, hn, hroom⟩ := h
  cases hu with
  | arrival bits hrec => exact ⟨hr, hrs, hd, hds, hord, hn, fun _ h => absurd h (by simp)⟩
  | accepted bits r hrec hopen hnew =>
    have hlt := hroom hopen hrec
    refine ⟨?_, ?_, hd, hds, hord, hn, fun _ h => absurd h (by simp)⟩
    · rw [requests_setRequests, List.length_append, List.length_singleton]
      omega
    · rw [requests_setRequests, List.map_append, List.nodup_append]
      refine ⟨hrs, by simp, fun a ha b hb => ?_⟩
      obtain ⟨x, hx, rfl⟩ := List.mem_map.mp ha
      have hne : x.sender ≠ r.sender := by
        intro he
        have : s.hasRequest r.sender = true := List.any_eq_true.mpr ⟨x, hx, by simp [he]⟩
        rw [hnew] at this
        exact absurd this (by simp)
      rw [List.map_singleton, List.mem_singleton] at hb
      exact hb ▸ hne
  | marked turn isOpen hlen =>
    exact ⟨hr, hrs, hd, hds, hord, hn, fun h _ => hlen (Option.some.inj h)⟩

theorem queueLaw_reset : reset.QueueLaw :=
  ⟨Nat.zero_le _, List.nodup_nil, Nat.zero_le _, List.nodup_nil, List.Pairwise.nil, Nat.zero_le _,
    fun h => absurd h (by simp [reset])⟩

/-! ### The position records (02, R26; 01, R22) -/

/-- A record of the law stays one where its leases stay in the table. -/
theorem RecordOk.of_leases {s t : State} {x : Slot} (h : s.RecordOk x)
    (hl : ∀ i, (s.leaseAt i).isSome = true → (x.owner = some i ∨ x.incoming.map Incoming.lease = some i) →
      (t.leaseAt i).isSome = true) : t.RecordOk x := by
  obtain ⟨hg, hu, ho, hi⟩ := h
  exact ⟨hg, hu, fun i hx => hl i (ho i hx) (.inl hx), fun e hx => hl _ (hi e hx) (.inr (by simp [hx]))⟩

theorem LeaseKept_isSome {a b : Option Lease} (h : LeaseKept a b) : b.isSome = a.isSome := by
  rcases h with rfl | ⟨l, l', rfl, rfl, -⟩ <;> rfl

/-- An entry of the lease table after RESTART (01, R24). -/
theorem leaseAt_restartRecords (s : State) (i : LeaseIdx) :
    s.restartRecords.leaseAt i = (s.leaseAt i).bind fun l =>
      if l.origin = .pin then some { l with startFrame := some 0 } else none := by
  have hget : s.restartRecords.leases.get i = restartLease (s.leases.get i) := Table.get_mapFrom _ _ _ _
  unfold leaseAt
  rw [hget]
  unfold restartLease
  split
  · next l hl =>
    rw [hl]
    split
    · next hp => simp [hp]
    · next hp => simp [hp]
  · next hl => simp [hl]

theorem slotAt_restartRecords (s : State) (p : Nat) :
    s.restartRecords.slotAt p = (s.slotAt p).map fun x => restartSlot (s.ownedByPin x) x :=
  (slotAt_congr (s := s.restartRecords)
    (t := (s.setFg ⟨.stopped, 0, .between, false, none, none⟩).mapSlots fun _ x => restartSlot (s.ownedByPin x) x) rfl
      p).trans (slotAt_mapSlots _ _ p)

/-- A pin stays an owner through RESTART (02, R48). -/
theorem recordOk_restartSlot {s : State} {x : Slot} (h : s.RecordOk x) :
    s.restartRecords.RecordOk (restartSlot (s.ownedByPin x) x) := by
  obtain ⟨hg, hu, ho, hi⟩ := h
  unfold restartSlot
  split
  · next i hx =>
    split
    · next hpin =>
      refine ⟨fun hn => absurd (hg hn) (by simp [hx]), fun hn => by simp at hn, fun j hj => ?_, fun e he => by simp at he⟩
      simp only [Option.some.injEq] at hj
      subst hj
      rw [leaseAt_restartRecords]
      simp only [ownedByPin, hx, isPin] at hpin
      split at hpin
      · next l hl => simpa [hl] using hpin
      · exact absurd hpin (by simp)
    · exact ⟨fun _ => rfl, fun hn => by simp at hn, fun j hj => by simp at hj, fun e he => by simp at he⟩
  · next hx =>
    exact ⟨fun _ => hx, fun hn => by simp at hn, fun j hj => by simp [hx] at hj, fun e he => by simp at he⟩

theorem slotLaw_change {s t : State} (hc : Change s t) (h : s.SlotLaw) : t.SlotLaw := by
  have h' := (slotLaw_iff s).mp h
  have same : ∀ {t : State}, t.slots = s.slots → (∀ i, (s.leaseAt i).isSome = true →
      (∃ p x, s.slotAt p = some x ∧ (x.owner = some i ∨ x.incoming.map Incoming.lease = some i)) →
        (t.leaseAt i).isSome = true) → t.SlotLaw := by
    intro t hslots hl
    rw [slotLaw_iff]
    intro p x hx
    rw [slotAt_congr hslots] at hx
    exact (h' p x hx).of_leases fun i hi hn => hl i hi ⟨p, x, hx, hn⟩
  cases hc with
  | slots f hf =>
    rw [slotLaw_iff]
    intro p y hy
    rw [slotAt_mapSlots] at hy
    obtain ⟨x, hx, rfl⟩ := Option.map_eq_some_iff.mp hy
    exact (hf p x hx (h' p x hx)).of_leases fun i hi _ => hi
  | leases v hv => exact same rfl fun i hi _ => (LeaseKept_isSome (hv i)).trans hi
  | granted i e l a hfree he =>
    refine same (by simp) fun j hj _ => ?_
    rw [leaseAt_set (s := s) (i := i) (e := e) (by simp), he]
    split
    · rfl
    · exact hj
  | pinned i e l hfree he =>
    refine same rfl fun j hj _ => ?_
    rw [leaseAt_set (s := s) (i := i) rfl, he]
    split
    · rfl
    · exact hj
  | freed i l r v hl hnone =>
    refine same rfl fun j hj ⟨p, x, hx, hn⟩ => ?_
    rw [leaseAt_set (s := s) (i := i) rfl, if_neg]
    · exact hj
    · rintro rfl
      exact hn.elim (hnone p x hx).1 (hnone p x hx).2
  | restarted =>
    rw [slotLaw_iff]
    intro p y hy
    rw [slotAt_restartRecords] at hy
    obtain ⟨x, hx, rfl⟩ := Option.map_eq_some_iff.mp hy
    exact recordOk_restartSlot (h' p x hx)
  | _ => exact h

theorem slotLaw_uplinkStep {s t : State} (hu : UplinkStep s t) (h : s.SlotLaw) : t.SlotLaw := by
  cases hu <;> exact h

theorem slotLaw_reset : reset.SlotLaw := by
  intro x hx
  have : x = Slot.free := List.eq_of_mem_replicate hx
  subst this
  exact ⟨fun h => absurd h (by simp [Slot.free]), fun h => absurd h (by simp [Slot.free]),
    fun i h => absurd h (by simp [Slot.free]), fun e h => absurd h (by simp [Slot.free])⟩

/-! ### The compaction worker (05, R108) -/

theorem workerLaw_change {s t : State} (hc : Change s t) (h : s.WorkerLaw) : t.WorkerLaw := by
  cases hc with
  | engine v hv => exact ⟨by rw [engine_setEngine, hv]; exact h.1, h.2⟩
  | worker w b hready hmove => exact ⟨hready, hmove⟩
  | granted => simpa [WorkerLaw] using h
  | _ => exact h

theorem workerLaw_uplinkStep {s t : State} (hu : UplinkStep s t) (h : s.WorkerLaw) : t.WorkerLaw := by
  cases hu <;> exact h

theorem workerLaw_reset : reset.WorkerLaw := by simp [WorkerLaw, reset]

/-! ### The generator, the configuration and the port (06; 10) -/

theorem generatorLaw_change {s t : State} (hc : Change s t) (h : s.GeneratorLaw) : t.GeneratorLaw := by
  cases hc with
  | fg v hv => exact hv h
  | restarted =>
    exact ⟨fun _ => ⟨rfl, rfl, rfl⟩, fun _ => rfl, fun _ => ⟨rfl, rfl⟩, fun hz => absurd hz (by simp [restartRecords])⟩
  | _ => exact h

theorem generatorLaw_uplinkStep {s t : State} (hu : UplinkStep s t) (h : s.GeneratorLaw) : t.GeneratorLaw := by
  cases hu <;> exact h

theorem generatorLaw_reset : reset.GeneratorLaw := by simp [GeneratorLaw, reset]

theorem settingsLaw_change {s t : State} (hc : Change s t) (h : s.SettingsLaw) : t.SettingsLaw := by
  cases hc with
  | settings v hv => exact hv h
  | _ => exact h

theorem settingsLaw_uplinkStep {s t : State} (hu : UplinkStep s t) (h : s.SettingsLaw) : t.SettingsLaw := by
  cases hu <;> exact h

theorem settingsLaw_reset : reset.SettingsLaw := by simp [SettingsLaw, reset]

theorem portLaw_change {s t : State} (hc : Change s t) (h : s.PortLaw) : t.PortLaw := by
  cases hc with
  | port v hv => exact hv h
  | _ => exact h

theorem portLaw_uplinkStep {s t : State} (hu : UplinkStep s t) (h : s.PortLaw) : t.PortLaw := by
  cases hu <;> exact h

theorem portLaw_reset : reset.PortLaw := by simp [PortLaw, reset, offsetNamed, Config.lastOffset]

/-! ### The runs (01, R5; 02, R27) -/

theorem runLaw_change {s t : State} (hc : Change s t) (h : s.RunLaw) : t.RunLaw := by
  cases hc with
  | leases v hv =>
    intro i l' hl'
    rcases hv i with heq | ⟨l, k, hl, hk, hkept⟩
    · exact h i l' (heq.trans hl')
    · have : k = l' := Option.some.inj (hk.symm.trans hl')
      exact this ▸ hkept.2.2.2 (h i l hl)
  | granted i e l a hfree he hholder horigin hquota hstate hrun =>
    intro j k hk
    rw [leaseAt_set (s := s) (i := i) (e := e) (by simp), he] at hk
    split at hk
    · exact Option.some.inj hk ▸ hrun h
    · exact h j k hk
  | pinned i e l hfree he hholder horigin hrun =>
    intro j k hk
    rw [leaseAt_set (s := s) (i := i) rfl, he] at hk
    split at hk
    · exact Option.some.inj hk ▸ hrun
    · exact h j k hk
  | freed i l r v =>
    intro j k hk
    rw [leaseAt_set (s := s) (i := i) rfl] at hk
    split at hk
    · exact absurd hk (by simp)
    · exact h j k hk
  | restarted =>
    intro i l hl
    rw [leaseAt_restartRecords, Option.bind_eq_some_iff] at hl
    obtain ⟨k, hk, hpin⟩ := hl
    split at hpin
    · rw [← Option.some.inj hpin]
      exact h i k hk
    · exact absurd hpin (by simp)
  | _ => exact h

theorem runLaw_uplinkStep {s t : State} (hu : UplinkStep s t) (h : s.RunLaw) : t.RunLaw := by
  cases hu <;> exact h

/-- No entry of the reset lease table holds a lease (01, R23). -/
theorem leaseAt_reset (i : LeaseIdx) : reset.leaseAt i = none := congrArg LeaseEntry.lease (leases_get_reset i)

theorem runLaw_reset : reset.RunLaw := fun i l hl => absurd ((leaseAt_reset i).symm.trans hl) (by simp)

end State

/-- Settles O55, by the changes of the queues. -/
theorem stepKeepsQueueLaw : Obligations.StepKeepsQueueLaw :=
  step_keeps (fun _ _ h => h) (fun _ => State.queueLaw_reset) (fun _ _ => State.queueLaw_change)
    fun _ _ => State.queueLaw_uplinkStep

/-- Settles O56, by the changes of the position records and the lease table. -/
theorem stepKeepsSlotLaw : Obligations.StepKeepsSlotLaw :=
  step_keeps (fun _ _ h => h) (fun _ => State.slotLaw_reset) (fun _ _ => State.slotLaw_change)
    fun _ _ => State.slotLaw_uplinkStep

/-- Settles O57, by the changes of the worker and its flag. -/
theorem stepKeepsWorkerLaw : Obligations.StepKeepsWorkerLaw :=
  step_keeps (fun _ _ h => h) (fun _ => State.workerLaw_reset) (fun _ _ => State.workerLaw_change)
    fun _ _ => State.workerLaw_uplinkStep

/-- Settles O58, by the changes of the generator, the configuration and the port. -/
theorem stepKeepsGeneratorAndSettingsLaw : Obligations.StepKeepsGeneratorAndSettingsLaw :=
  ⟨step_keeps (fun _ _ h => h) (fun _ => State.generatorLaw_reset) (fun _ _ => State.generatorLaw_change)
      fun _ _ => State.generatorLaw_uplinkStep,
    step_keeps (fun _ _ h => h) (fun _ => State.settingsLaw_reset) (fun _ _ => State.settingsLaw_change)
      fun _ _ => State.settingsLaw_uplinkStep,
    step_keeps (fun _ _ h => h) (fun _ => State.portLaw_reset) (fun _ _ => State.portLaw_change)
      fun _ _ => State.portLaw_uplinkStep⟩

/-- Settles O60, by the changes of the lease table. -/
theorem stepKeepsRunLaw : Obligations.StepKeepsRunLaw :=
  step_keeps (fun _ _ h => h) (fun _ => State.runLaw_reset) (fun _ _ => State.runLaw_change)
    fun _ _ => State.runLaw_uplinkStep

end Sys2Proof.Machine
end

section
/-!
PROOFS. The law of holdings, as sums over the lease table (07, R134), and what follows of every command and of reset.
-/
namespace Sys2Proof.Machine

/-- What an entry of the lease table adds to a count of tributary `t`'s leases, each weighed by `w`. -/
def heldWeight (w : Lease → Nat) (t : Trib) : Option Lease → Nat
  | some l => if l.holder = some t then w l else 0
  | none => 0

/-- An update of a lease that keeps holder and class keeps what its entry adds. -/
theorem heldWeight_kept {w : Lease → Nat} (hw : ∀ l l' : Lease, l'.cls = l.cls → w l' = w l) (t : Trib) {a b : Option Lease}
    (h : LeaseKept a b) : heldWeight w t b = heldWeight w t a := by
  rcases h with rfl | ⟨l, l', rfl, rfl, hh, -, hc, -⟩
  · rfl
  · simp only [heldWeight, hh, hw l l' hc]

theorem heldWeight_some_holder {w : Lease → Nat} {t : Trib} {l : Lease} {a : Option Trib} (h : l.holder = a) :
    heldWeight w t (some l) = if a = some t then w l else 0 := by
  rw [heldWeight, h]

namespace State

/-- The leases of tributary `t`, each weighed by `w`, added up. -/
def heldSum (w : Lease → Nat) (t : Trib) (s : State) : Nat := ∑ i : LeaseIdx, heldWeight w t (s.leaseAt i)

/-- A filtered list's sum is that of the list with zeros for what is left out. -/
theorem sum_map_filter {α : Type} (p : α → Bool) (f : α → Nat) (l : List α) :
    ((l.filter p).map f).sum = (l.map fun a => if p a then f a else 0).sum := by
  induction l with
  | nil => rfl
  | cons a as ih =>
    by_cases h : p a = true
    · simp [h, ih]
    · simp [h, ih]

theorem leasesOf_length (s : State) (t : Trib) : (s.leasesOf t).length = s.heldSum (fun _ => 1) t := by
  have h : (s.leasesOf t).length = ((s.leasesOf t).map fun _ => 1).sum := by simp
  rw [h, leasesOf, sum_map_filter, heldSum, Fin.sum_univ_def]
  refine congrArg List.sum (List.map_congr_left fun i _ => ?_)
  cases s.leaseAt i <;> simp [heldWeight]

theorem slotsOf_eq (s : State) (t : Trib) : s.slotsOf t = s.heldSum (fun l => runLength l.cls) t := by
  rw [slotsOf, leasesOf, sum_map_filter, heldSum, Fin.sum_univ_def]
  refine congrArg List.sum (List.map_congr_left fun i _ => ?_)
  cases s.leaseAt i <;> simp [heldWeight]

/-- A sum over the lease table with one entry replaced. -/
theorem heldSum_set {w : Lease → Nat} {s u : State} {i : LeaseIdx} {a : Option Lease} (t : Trib)
    (h : ∀ j, u.leaseAt j = if j = i then a else s.leaseAt j) :
    u.heldSum w t + heldWeight w t (s.leaseAt i) = s.heldSum w t + heldWeight w t a := by
  have hrest : ∑ j ∈ Finset.univ.erase i, heldWeight w t (u.leaseAt j) =
      ∑ j ∈ Finset.univ.erase i, heldWeight w t (s.leaseAt j) :=
    Finset.sum_congr rfl fun j hj => by rw [h, if_neg (Finset.ne_of_mem_erase hj)]
  have hu := Finset.add_sum_erase Finset.univ (fun j => heldWeight w t (u.leaseAt j)) (Finset.mem_univ i)
  have hs := Finset.add_sum_erase Finset.univ (fun j => heldWeight w t (s.leaseAt j)) (Finset.mem_univ i)
  have hi : u.leaseAt i = a := by rw [h, if_pos rfl]
  rw [hi] at hu
  unfold heldSum
  omega

theorem heldSum_congr {w : Lease → Nat} {s u : State} (t : Trib)
    (h : ∀ i, heldWeight w t (u.leaseAt i) = heldWeight w t (s.leaseAt i)) : u.heldSum w t = s.heldSum w t :=
  Finset.sum_congr rfl fun i _ => h i

/-- The law of holdings, entry by entry and lease by lease. -/
theorem holdingsLaw_iff (s : State) : s.HoldingsLaw ↔
    (∀ t, (s.entry t).leasesHeld = s.heldSum (fun _ => 1) t ∧ (s.entry t).slotsHeld = s.heldSum (fun l => runLength l.cls) t ∧
      (s.entry t).leasesHeld ≤ (s.entry t).leaseQuota ∧ (s.entry t).slotsHeld ≤ (s.entry t).slotQuota) ∧
    (∀ i l t, s.leaseAt i = some l → l.holder = some t → (s.entry t).state.mayHold = true) ∧
    (∀ i l, s.leaseAt i = some l → (l.origin = .pin ↔ l.holder = none)) ∧
    (∀ t r, s.due.missed = some (t, r) → s.speaks t = true) := by
  have hhold : ∀ e : RosterState, e.mayHold = true ↔ e = .present ∨ e = .silent ∨ e = .leaving := by
    intro e; cases e <;> simp [RosterState.mayHold]
  have hempty : ∀ t, (s.leasesOf t).isEmpty = false ↔ ∃ i l, s.leaseAt i = some l ∧ l.holder = some t := by
    intro t
    rw [← Bool.not_eq_true, List.isEmpty_iff, List.eq_nil_iff_forall_not_mem, not_forall]
    simp only [not_not, mem_leasesOf]
  unfold HoldingsLaw
  simp only [leasesOf_length, slotsOf_eq, hempty, ← hhold]
  constructor
  · rintro ⟨h, hp, hm⟩
    exact ⟨fun t => ⟨(h t).1, (h t).2.1, (h t).2.2.1, (h t).2.2.2.1⟩, fun i l t hl hh => (h t).2.2.2.2 ⟨i, l, hl, hh⟩, hp, hm⟩
  · rintro ⟨h, hs, hp, hm⟩
    exact ⟨fun t => ⟨(h t).1, (h t).2.1, (h t).2.2.1, (h t).2.2.2, fun ⟨i, l, hl, hh⟩ => hs i l t hl hh⟩, hp, hm⟩

/-- The sums depend on the leases alone. -/
theorem heldSum_of_leases {s u : State} (h : u.leases = s.leases) (w : Lease → Nat) (t : Trib) :
    u.heldSum w t = s.heldSum w t :=
  heldSum_congr t fun i => by unfold leaseAt; rw [h]

theorem leaseAt_congr {s u : State} (h : u.leases = s.leases) (i : LeaseIdx) : u.leaseAt i = s.leaseAt i := by
  unfold leaseAt
  rw [h]

theorem speaks_congr {s u : State} {t : Trib} (h : (u.entry t).state = (s.entry t).state) : u.speaks t = s.speaks t := by
  unfold speaks
  rw [h]

/-- An update of the roster that raises no count (07, R134). -/
theorem holdingsLaw_roster {s : State} {v : Table RosterEntry 30} (hv : ∀ t, s.EntryKept t (v.get t)) (h : s.HoldingsLaw) :
    (s.setRoster v).HoldingsLaw := by
  rw [holdingsLaw_iff] at h ⊢
  obtain ⟨hc, hs, hp, hm⟩ := h
  refine ⟨fun t => ?_, fun i l t hl hh => ?_, hp, fun t r hr => ?_⟩
  · obtain ⟨h1, h2, h3, h4⟩ := hc t
    have ⟨k1, k2, k3, k4, _, _⟩ := hv t
    change (v.get t).leasesHeld = s.heldSum _ t ∧ (v.get t).slotsHeld = s.heldSum _ t ∧
      (v.get t).leasesHeld ≤ (v.get t).leaseQuota ∧ (v.get t).slotsHeld ≤ (v.get t).slotQuota
    refine ⟨k2.trans h1, k1.trans h2, ?_, ?_⟩
    · rw [k2]
      rcases k4 with k4 | k4
      · rw [k4]; exact h3
      · exact k4
    · rw [k1]
      rcases k3 with k3 | k3
      · rw [k3]; exact h4
      · exact k3
  · have hold := hs i l t hl hh
    change (v.get t).state.mayHold = true
    rcases (hv t).holder with k | k | k | k
    · rw [k]; exact hold
    · exact k
    · exact absurd (k.symm.trans hold) (by simp)
    · have : i ∈ s.leasesOf t := (mem_leasesOf s t i).mpr ⟨l, hl, hh⟩
      rw [k] at this
      exact absurd this (by simp)
  · have hold := hm t r hr
    rcases (hv t).speaker with k | k | k | k
    · exact (speaks_congr (s := s) (u := s.setRoster v) k).trans hold
    · exact (speaks_iff _ t).mpr (.inl k)
    · exact (speaks_iff _ t).mpr (.inr k)
    · exact absurd (k.symm.trans hr) (by simp)

/-- A lease granted within its holder's quotas raises the counts by it (01, R15; 07, R134). -/
theorem holdingsLaw_granted {s : State} {i : LeaseIdx} {e : LeaseEntry} {l : Lease} {a : Trib} (hfree : s.leaseAt i = none)
    (he : e.lease = some l) (hholder : l.holder = some a) (horigin : l.origin ≠ .pin)
    (hquota : s.withinQuota a l.cls = true) (hstate : (s.entry a).state.mayHold = true) (h : s.HoldingsLaw) :
    ((s.setLeases (s.leases.set i e)).addHeld a l.cls).HoldingsLaw := by
  rw [holdingsLaw_iff] at h ⊢
  obtain ⟨hc, hs, hp, hm⟩ := h
  generalize hu : (s.setLeases (s.leases.set i e)).addHeld a l.cls = u
  have hleases : ∀ j, u.leaseAt j = if j = i then some l else s.leaseAt j := by
    intro j
    rw [← hu, leaseAt_set (s := s) (i := i) (e := e) (by simp), he]
  have hsum : ∀ w t, u.heldSum w t = s.heldSum w t + if a = t then w l else 0 := by
    intro w t
    have := heldSum_set (w := w) t hleases
    rw [hfree, heldWeight_some_holder hholder] at this
    simpa [heldWeight] using this
  have hentry : ∀ t, u.entry t = if t = a then { s.entry a with
      slotsHeld := (s.entry a).slotsHeld + runLength l.cls, leasesHeld := (s.entry a).leasesHeld + 1 } else s.entry t := by
    intro t
    rw [← hu]
    by_cases ht : t = a
    · subst ht; simp [addHeld, entry, setEntry]
    · simp [addHeld, entry, setEntry, Table.get_set_ne _ _ ht, ht]
  have hst : ∀ t, (u.entry t).state = (s.entry t).state := by
    intro t
    rw [hentry]
    split
    · next ht => rw [ht]
    · rfl
  refine ⟨fun t => ?_, fun j k t hk hh => ?_, fun j k hk => ?_, fun t r hr => ?_⟩
  · obtain ⟨h1, h2, h3, h4⟩ := hc t
    obtain ⟨q1, q2⟩ := (withinQuota_iff s a l.cls).mp hquota
    rw [hentry, hsum, hsum]
    by_cases ht : t = a
    · subst ht
      simp only [if_true]
      exact ⟨by rw [h1], by rw [h2], q2, q1⟩
    · simp only [ht, Ne.symm ht, if_false, Nat.add_zero]
      exact ⟨h1, h2, h3, h4⟩
  · rw [hst]
    rw [hleases] at hk
    split at hk
    · rw [← Option.some.inj hk, hholder, Option.some.injEq] at hh
      exact hh ▸ hstate
    · exact hs j k t hk hh
  · rw [hleases] at hk
    split at hk
    · rw [← Option.some.inj hk]
      simp [horigin, hholder]
    · exact hp j k hk
  · rw [speaks_congr (hst t)]
    exact hm t r (by rw [← hu] at hr; simpa using hr)

/-- A pin is counted in no entry (01, R4; 07, R134). -/
theorem holdingsLaw_pinned {s : State} {i : LeaseIdx} {e : LeaseEntry} {l : Lease} (hfree : s.leaseAt i = none)
    (he : e.lease = some l) (hholder : l.holder = none) (horigin : l.origin = .pin) (h : s.HoldingsLaw) :
    (s.setLeases (s.leases.set i e)).HoldingsLaw := by
  rw [holdingsLaw_iff] at h ⊢
  obtain ⟨hc, hs, hp, hm⟩ := h
  have hleases : ∀ j, (s.setLeases (s.leases.set i e)).leaseAt j = if j = i then some l else s.leaseAt j := by
    intro j
    rw [leaseAt_set (s := s) (i := i) rfl, he]
  have hsum : ∀ w t, (s.setLeases (s.leases.set i e)).heldSum w t = s.heldSum w t := by
    intro w t
    have := heldSum_set (w := w) t hleases
    rw [hfree, heldWeight_some_holder hholder] at this
    simpa [heldWeight] using this
  refine ⟨fun t => ?_, fun j k t hk hh => ?_, fun j k hk => ?_, hm⟩
  · rw [hsum, hsum]
    exact hc t
  · rw [hleases] at hk
    split at hk
    · rw [← Option.some.inj hk, hholder] at hh
      exact absurd hh (by simp)
    · exact hs j k t hk hh
  · rw [hleases] at hk
    split at hk
    · rw [← Option.some.inj hk]
      exact ⟨fun _ => hholder, fun _ => horigin⟩
    · exact hp j k hk

/-- A lease freed lowers its holder's counts by it (01, R22; 07, R134). -/
theorem holdingsLaw_freed {s : State} {i : LeaseIdx} {l : Lease} {r : EndReason} {v : Table RosterEntry 30}
    (hl : s.leaseAt i = some l) (hheld : s.HeldDropped l v) (h : s.HoldingsLaw) :
    ((s.freeLease i r).setRoster v).HoldingsLaw := by
  rw [holdingsLaw_iff] at h ⊢
  obtain ⟨hc, hs, hp, hm⟩ := h
  generalize hu : (s.freeLease i r).setRoster v = u
  have hleases : ∀ j, u.leaseAt j = if j = i then none else s.leaseAt j := by
    intro j
    rw [← hu]
    exact leaseAt_set (s := s) (e := ⟨(s.leases.get i).generation + 1, some r, none⟩) rfl j
  have hsum : ∀ w t, u.heldSum w t + (if l.holder = some t then w l else 0) = s.heldSum w t := by
    intro w t
    have := heldSum_set (w := w) t hleases
    rw [hl] at this
    simpa [heldWeight] using this
  have hst : ∀ t, (u.entry t).state = (s.entry t).state := fun t => by rw [← hu]; exact (hheld t).2.2.2.2
  refine ⟨fun t => ?_, fun j k t hk hh => ?_, fun j k hk => ?_, fun t r' hr => ?_⟩
  · obtain ⟨h1, h2, h3, h4⟩ := hc t
    obtain ⟨d1, d2, d3, d4, -⟩ := hheld t
    have he : u.entry t = v.get t := by rw [← hu]; rfl
    have hsum1 := hsum (fun _ => 1) t
    have hsum2 := hsum (fun l => runLength l.cls) t
    rw [he, d1, d2, d3, d4]
    split at hsum1
    · next ht =>
      simp only [ht, if_true] at hsum2 ⊢
      exact ⟨by omega, by omega, by omega, by omega⟩
    · next ht =>
      simp only [ht, if_false] at hsum2 ⊢
      exact ⟨by omega, by omega, h3, h4⟩
  · rw [hst]
    rw [hleases] at hk
    split at hk
    · exact absurd hk (by simp)
    · exact hs j k t hk hh
  · rw [hleases] at hk
    split at hk
    · exact absurd hk (by simp)
    · exact hp j k hk
  · rw [speaks_congr (hst t)]
    exact hm t r' (by rw [← hu] at hr; exact hr)

/-- After RESTART the leases left are pins, which nobody holds (01, R24; 07, R151). -/
theorem holdingsLaw_restarted {s : State} (hnone : s.due.missed = none) (h : s.HoldingsLaw) :
    s.restartRecords.HoldingsLaw := by
  rw [holdingsLaw_iff] at h ⊢
  obtain ⟨-, -, hp, -⟩ := h
  have hpin : ∀ i l, s.restartRecords.leaseAt i = some l → l.origin = .pin ∧ l.holder = none := by
    intro i l hl
    rw [leaseAt_restartRecords, Option.bind_eq_some_iff] at hl
    obtain ⟨k, hk, hkl⟩ := hl
    split at hkl
    · next hkp =>
      rw [← Option.some.inj hkl]
      exact ⟨hkp, (hp i k hk).mp hkp⟩
    · exact absurd hkl (by simp)
  have hsum : ∀ w t, s.restartRecords.heldSum w t = 0 := by
    intro w t
    refine Finset.sum_eq_zero fun i _ => ?_
    cases hl : s.restartRecords.leaseAt i with
    | none => rfl
    | some l => rw [heldWeight_some_holder (hpin i l hl).2]; simp
  have hentry : ∀ t, (s.restartRecords.entry t).leasesHeld = 0 ∧ (s.restartRecords.entry t).slotsHeld = 0 := by
    intro t
    have : s.restartRecords.entry t = restartEntry (s.entry t) := Table.get_mapFrom _ _ _ _
    rw [this]
    unfold restartEntry
    split <;> exact ⟨rfl, rfl⟩
  refine ⟨fun t => ?_, fun i l t hl hh => ?_, fun i l hl => ?_, fun t r hr => ?_⟩
  · rw [hsum, hsum, (hentry t).1, (hentry t).2]
    exact ⟨rfl, rfl, Nat.zero_le _, Nat.zero_le _⟩
  · rw [(hpin i l hl).2] at hh
    exact absurd hh (by simp)
  · exact ⟨fun _ => (hpin i l hl).2, fun _ => (hpin i l hl).1⟩
  · exact absurd (hnone.symm.trans hr) (by simp)

theorem holdingsLaw_change {s t : State} (hc : Change s t) (h : s.HoldingsLaw) : t.HoldingsLaw := by
  cases hc with
  | due d hd =>
    obtain ⟨hcount, hpin, hmiss⟩ := h
    exact ⟨hcount, hpin, fun t r hr => (hd t r hr).elim (hmiss t r) id⟩
  | roster v hv => exact holdingsLaw_roster hv h
  | leases v hv =>
    rw [holdingsLaw_iff] at h ⊢
    obtain ⟨hcount, hs, hp, hm⟩ := h
    have hsum : ∀ w, (∀ l l' : Lease, l'.cls = l.cls → w l' = w l) → ∀ t,
        (s.setLeases v).heldSum w t = s.heldSum w t :=
      fun w hw t => heldSum_congr t fun i => heldWeight_kept hw t (hv i)
    have hback : ∀ i l', (s.setLeases v).leaseAt i = some l' →
        ∃ l, s.leaseAt i = some l ∧ l'.holder = l.holder ∧ l'.origin = l.origin := by
      intro i l' hl'
      rcases hv i with heq | ⟨l, k, hl, hk, hh, ho, -⟩
      · exact ⟨l', heq.trans hl', rfl, rfl⟩
      · have : k = l' := Option.some.inj (hk.symm.trans hl')
        exact ⟨l, hl, this ▸ hh, this ▸ ho⟩
    refine ⟨fun t => ?_, fun i l' t hl' hh => ?_, fun i l' hl' => ?_, hm⟩
    · rw [hsum _ (fun _ _ _ => rfl), hsum _ (fun l l' hc => by rw [hc])]
      exact hcount t
    · obtain ⟨l, hl, h1, -⟩ := hback i l' hl'
      exact hs i l t hl (h1 ▸ hh)
    · obtain ⟨l, hl, h1, h2⟩ := hback i l' hl'
      rw [h1, h2]
      exact hp i l hl
  | granted i e l a hfree he hholder horigin hquota hstate =>
    exact holdingsLaw_granted hfree he hholder horigin hquota hstate h
  | pinned i e l hfree he hholder horigin => exact holdingsLaw_pinned hfree he hholder horigin h
  | freed i l r v hl hnone hheld => exact holdingsLaw_freed hl hheld h
  | restarted hnone => exact holdingsLaw_restarted hnone h
  | _ => exact h

theorem holdingsLaw_uplinkStep {s t : State} (hu : UplinkStep s t) (h : s.HoldingsLaw) : t.HoldingsLaw := by
  cases hu <;> exact h

theorem holdingsLaw_reset : reset.HoldingsLaw := by
  rw [holdingsLaw_iff]
  have hentry : ∀ t, reset.entry t = RosterEntry.reset := fun t => Table.get_replicate _ t
  have hsum : ∀ w t, reset.heldSum w t = 0 := fun w t => Finset.sum_eq_zero fun i _ => by rw [leaseAt_reset]; rfl
  refine ⟨fun t => ?_, fun i l t hl => ?_, fun i l hl => ?_, fun t r hr => ?_⟩
  · rw [hsum, hsum, hentry]
    exact ⟨rfl, rfl, Nat.zero_le _, Nat.zero_le _⟩
  · exact absurd ((leaseAt_reset i).symm.trans hl) (by simp)
  · exact absurd ((leaseAt_reset i).symm.trans hl) (by simp)
  · exact absurd hr (by simp [reset, Due.nothing])

/-! ### The queue of commands -/

theorem pending_change {s t : State} (hc : Change s t) : t.pending = s.pending := by
  cases hc with
  | granted => simp
  | _ => rfl

theorem Reach.pending {s t : State} (h : Reach s t) : t.pending = s.pending :=
  h.keeps (P := fun x => x.pending = s.pending) (fun _ _ hc hx => (pending_change hc).trans hx) rfl

end State

/-- Settles O59, by the changes of the roster and the lease table. -/
theorem stepKeepsHoldingsLaw : Obligations.StepKeepsHoldingsLaw :=
  step_keeps (fun _ _ h => h) (fun _ => State.holdingsLaw_reset) (fun _ _ => State.holdingsLaw_change)
    fun _ _ => State.holdingsLaw_uplinkStep

/-- Every command answers a next state: each arm of the dispatch is one. -/
theorem exec_next (c : Instr) (s : State) : ∃ t, exec c s = .next t := by
  cases c <;> exact ⟨_, rfl⟩

/-- Settles O2: no change of the records, and no event of the uplink receiver, is one of the queue of commands. -/
theorem everyCommandAnswersNextState : Obligations.EveryCommandAnswersNextState := by
  intro c s
  obtain ⟨t, ht⟩ := exec_next c s
  refine ⟨t, ht, ?_⟩
  by_cases hc : ∃ straps, c = .powerOnReset straps
  · obtain ⟨straps, rfl⟩ := hc
    rw [exec_powerOnReset, Host.Outcome.next.injEq] at ht
    rw [← ht]
    rfl
  · rcases exec_reach (fun straps h => hc ⟨straps, h⟩) ht with hr | ⟨u, v, hu, huv, hv⟩
    · exact hr.pending
    · have hstep : v.pending = u.pending := by cases huv <;> rfl
      exact hv.pending.trans (hstep.trans hu.pending)

/-- Settles O1, by the equations of `step`. -/
theorem stepTakesFrontCommand : Obligations.StepTakesFrontCommand := by
  constructor
  · intro c rest s h
    rw [step, h]
  · intro s h
    rw [step, h]

/-- Settles O54: the reset state meets each law. -/
theorem resetSatisfiesEveryLaw : Obligations.ResetSatisfiesEveryLaw :=
  ⟨State.queueLaw_reset, State.slotLaw_reset, State.workerLaw_reset, State.generatorLaw_reset, State.settingsLaw_reset,
    State.portLaw_reset, State.holdingsLaw_reset, State.runLaw_reset⟩

end Sys2Proof.Machine
end

section
/-!
PROOFS. The port's register writes: what a received write makes of each register, and what each register shows (10, R183,
R186-R192).
-/
namespace Sys2Proof

/-! ### The bytes of a write -/

/-- A field of up to eight bits that starts with a byte lane: it takes the received byte's low bits if the write covers the
byte, and is kept otherwise (10, R183). -/
theorem PortWrite.extract_merge_field (w : PortWrite) (old : Word) {k n : Nat} (hk : k < 4) (hn : n ≤ 8) :
    (w.merge old).extractLsb' (8 * k) n =
      if k < w.count.toNat then (w.data.getD k 0).setWidth n else old.extractLsb' (8 * k) n := by
  apply BitVec.eq_of_getLsbD_eq
  intro j hj
  have hbyte : (8 * k + j) / 8 = k := by omega
  have hbit : (8 * k + j) % 8 = j := by omega
  rw [BitVec.getLsbD_extractLsb', w.getLsbD_merge old _ (by omega), hbyte, hbit]
  split <;> simp [hj]

/-- A bit of the counted bytes alone (10, R183). -/
theorem PortWrite.getLsbD_value (w : PortWrite) {i : Nat} (hi : i < 32) :
    w.value.getLsbD i = (decide (i / 8 < w.count.toNat) && (w.data.getD (i / 8) 0).getLsbD (i % 8)) := by
  rw [value, w.getLsbD_merge 0 i hi]
  split
  · next h => simp [h]
  · next h => simp [h]

/-- A byte taken whole. -/
theorem setWidth_byte (b : Byte) : b.setWidth 8 = b := BitVec.setWidth_eq b

namespace Machine

namespace State

variable {s : State} {w : PortWrite}

/-- A whole write that the port receives takes effect on its register, with its phase kept (10, R183, R184). -/
theorem portWrite_receives {o : Byte} {r : Register} (hr : registerAt o = some r) (h : s.receives w) :
    s.portWrite o w true = (s.phaseKept o w.count).writeRegister r w :=
  portWrite_complete s true hr h.1 h.2

/-- A write received counts at least one byte. -/
theorem count_pos_of_receives (h : s.receives w) : 0 < w.count.toNat := by
  have := h.2
  simp only [PortWrite.complete, Bool.and_eq_true, decide_eq_true_eq] at this
  omega

/-- REGISTER_WRITE of a whole write that the port receives (10, R183). -/
theorem exec_registerWrite_whole {o : Byte} {r : Register} (hr : registerAt o = some r) (h : s.receives w) :
    exec (.registerWrite o (.whole w)) s = .next ((s.phaseKept o w.count).writeRegister r w) :=
  congrArg Host.Outcome.next (portWrite_receives hr h)

end State

open State

/-! ### Attention (10, R190, R191) -/

/-- Two words share a set bit exactly where their conjunction is not zero. -/
theorem and_ne_zero_iff {n : Nat} (x y : BitVec n) :
    x &&& y ≠ 0 ↔ ∃ b, b < n ∧ x.getLsbD b = true ∧ y.getLsbD b = true := by
  constructor
  · intro hne
    by_contra hnone
    push Not at hnone
    refine hne (BitVec.eq_of_getLsbD_eq fun b hb => ?_)
    have := hnone b hb
    cases hx : x.getLsbD b <;> simp_all
  · rintro ⟨b, -, hx, hy⟩ hzero
    have : (x &&& y).getLsbD b = true := by simp [hx, hy]
    simp [hzero] at this

/-- Settles O9: ATTENTION keeps the flags that the counted bytes do not write as ones, and ATTN_N is the conjunction with
the enables. -/
theorem attentionWriteClearsFlags : Obligations.AttentionWriteClearsFlags := by
  refine ⟨fun w s h => ?cleared, fun s => ?line⟩
  case cleared =>
    refine ⟨s.attention &&& ~~~(w.value.setWidth 10),
      congrArg Host.Outcome.next (portWrite_receives (o := 0x0C) (r := .attention) rfl h), fun b hb => ?_⟩
    rw [BitVec.getLsbD_and, BitVec.getLsbD_not, BitVec.getLsbD_setWidth, w.getLsbD_value (by omega)]
    simp [hb]
  case line =>
    rw [attnLow, decide_eq_true_iff, and_ne_zero_iff]

/-! ### The latch of a command (10, R192) -/

/-- Settles O11: the low counted byte is the code that the command unit latches, where it has room for one. -/
theorem commandWriteLatches : Obligations.CommandWriteLatches := by
  intro w s h
  have hexec : exec (.cmdWrite w) s = .next ((s.phaseKept 0x28 w.count).writeCmd w) :=
    congrArg Host.Outcome.next (portWrite_receives (o := 0x28) (r := .cmd) rfl h)
  have hcode : w.value.extractLsb' 0 8 = w.data.getD 0 0 := by
    have := w.extract_merge 0 0 (by decide)
    rwa [if_pos (count_pos_of_receives h)] at this
  rw [hexec]
  have hstate : (s.phaseKept 0x28 w.count).cmd = s.cmd := rfl
  constructor
  · rintro (hidle | hdone)
    · rw [writeCmd, hstate, hidle, hcode]
      rfl
    · rw [writeCmd, hstate, hdone, hcode]
      rfl
  · rintro (haccepted | hexecuting)
    · rw [writeCmd, hstate, haccepted]
      rfl
    · rw [writeCmd, hstate, hexecuting]
      rfl

/-! ### CONTROL and the frame requests (06, R119-R123; 10, R187) -/

/-- A row's own frame request leaves the address, the count and the length of the write, and all bytes but the first. -/
theorem withRequest_keeps (r : BitVec 2) (w : PortWrite) :
    (w.withRequest r).device = w.device ∧ (w.withRequest r).count = w.count ∧
      (w.withRequest r).data.length = w.data.length ∧ ∀ k, (w.withRequest r).data.getD (k + 1) 0 = w.data.getD (k + 1) 0 := by
  unfold PortWrite.withRequest
  split
  · exact ⟨rfl, rfl, rfl, fun _ => rfl⟩
  · next hd => exact ⟨rfl, rfl, by rw [hd]; rfl, fun _ => by rw [hd]; rfl⟩

/-- The low bits of a byte with the frame request `r` forced into it. -/
theorem requestByte : ∀ (r : BitVec 2) (b : Byte), ((b &&& 0xFC) ||| r.setWidth 8).setWidth 2 = r := by
  intro r b
  ext i hi
  have : i = 0 ∨ i = 1 := by omega
  rcases this with rfl | rfl <;> simp

namespace State

variable {s : State} {w : PortWrite}

/-- The port receives the write with the row's frame request exactly as it does the write. -/
theorem receives_withRequest {r : BitVec 2} (h : s.receives w) : s.receives (w.withRequest r) := by
  obtain ⟨hd, hc, hl, -⟩ := withRequest_keeps r w
  unfold receives PortWrite.complete
  rw [hd, hc, hl]
  exact h

/-- The frame request that the counted bytes carry is the row's own. -/
theorem value_withRequest {r : BitVec 2} (h : s.receives w) : (w.withRequest r).value.extractLsb' 0 2 = r := by
  have hfield := (w.withRequest r).extract_merge_field 0 (k := 0) (n := 2) (by decide) (by decide)
  rw [if_pos (count_pos_of_receives (receives_withRequest h))] at hfield
  refine hfield.trans ?_
  have hlen := h.2
  simp only [PortWrite.complete, Bool.and_eq_true, decide_eq_true_eq] at hlen
  unfold PortWrite.withRequest
  split
  · next hd =>
    rw [hd] at hlen
    simp at hlen
    omega
  · exact requestByte r _

/-- A CONTROL write received is `controlWritten` with its frame request (06, R119; 10, R187). -/
theorem writeControl_phaseKept (s : State) (w : PortWrite) :
    (s.phaseKept 0x04 w.count).writeControl w = (s.controlWritten w).frameRequest (w.value.extractLsb' 0 2) := by
  have hbit : (if w.covers 1 then w.value.getLsbD 8 else s.settings.preemptEn) =
      if 2 ≤ w.count.toNat then (w.data.getD 1 0).getLsbD 0 else s.settings.preemptEn := by
    rw [w.getLsbD_value (by decide)]
    by_cases h : 1 < w.count.toNat <;> simp [PortWrite.covers, h, Nat.succ_le_iff]
  exact congrArg (fun b => ((s.phaseKept 0x04 w.count).setSettings { s.settings with preemptEn := b }).frameRequest
    (w.value.extractLsb' 0 2)) hbit

/-- The frame request forced into a CONTROL write is no part of what else the write does. -/
theorem controlWritten_withRequest (s : State) (w : PortWrite) (r : BitVec 2) :
    s.controlWritten (w.withRequest r) = s.controlWritten w := by
  obtain ⟨-, hc, -, hd⟩ := withRequest_keeps r w
  unfold controlWritten
  rw [hc, hd 0]

/-- A request row is a CONTROL write with the row's own frame request (06, R119). -/
theorem portWrite_request {r : BitVec 2} (h : s.receives w) :
    s.portWrite 0x04 (w.withRequest r) true = (s.controlWritten w).frameRequest r := by
  rw [portWrite_receives (r := .control) rfl (receives_withRequest h)]
  refine (writeControl_phaseKept s _).trans ?_
  rw [value_withRequest h, controlWritten_withRequest]

end State

/-- Settles O12: each request row is `controlWritten` followed by its request, whose branches are those of the generator's
state. -/
theorem frameRequestsActByState : Obligations.FrameRequestsActByState := by
  intro w s h
  have hstart : exec (.startRequest w) s = .next (s.controlWritten w).requestStart :=
    congrArg Host.Outcome.next (portWrite_request h)
  have hhalt : exec (.haltRequest w) s = .next (s.controlWritten w).requestHalt :=
    congrArg Host.Outcome.next (portWrite_request h)
  have hresume : exec (.resumeRequest w) s = .next (s.controlWritten w).requestResume :=
    congrArg Host.Outcome.next (portWrite_request h)
  have hfg : (s.controlWritten w).fg = s.fg := rfl
  rw [hstart, hhalt, hresume, requestStart, requestHalt, requestResume, hfg]
  refine ⟨fun hs => ?startStopped, fun hs => ?startOther, fun hs hp => ?haltInFrame, fun hs hp => ?haltBetween,
    fun hs => ?haltOther, fun hs => ?resumeHalted, fun hs => ?resumeHalting, fun hs => ?resumeOther⟩
  case startStopped => rw [hs]
  case startOther =>
    cases hg : s.fg.state with
    | stopped => exact absurd hg hs
    | running => rfl
    | halting => rfl
    | halted => rfl
  case haltInFrame =>
    rw [hs]
    cases hg : s.fg.phase with
    | between => exact absurd hg hp
    | zeroBegun => rfl
    | inFrame => rfl
  case haltBetween =>
    rw [hs, hp]
    rfl
  case haltOther =>
    cases hg : s.fg.state with
    | running => exact absurd hg hs
    | stopped => rfl
    | halting => rfl
    | halted => rfl
  case resumeHalted => rw [hs]
  case resumeHalting => rw [hs]
  case resumeOther =>
    rcases hs with hs | hs <;> rw [hs] <;> rfl

/-- Settles O13: with nothing outstanding the row alone decides, by the generator's state and phase. -/
theorem haltCompletesAfterFrameClose : Obligations.HaltCompletesAfterFrameClose := by
  intro s hq
  have hexec : exec .haltComplete s = .next (if s.fg.state = .halting ∧ s.fg.phase = .between then s.becomeHalted else s) := by
    have h : exec .haltComplete s = execHaltComplete s := rfl
    rw [h, execHaltComplete, settle_of_quiet s hq]
  rw [hexec]
  refine ⟨fun hs hp => ?_, fun hother => ?_⟩
  · rw [if_pos ⟨hs, hp⟩]
    rfl
  · rw [if_neg (by rwa [not_and_or])]

end Machine

end Sys2Proof
end

section
/-!
PROOFS. What each register shows (10, R184, R186, R189, section 10.2), the registers that take the counted bytes (R183), and
the configuration fields (R188, R130).
-/
namespace Sys2Proof.Machine

open State

/-! ### The layouts

A word's fields are taken apart by the rules of a concatenation: a field at or above the low part lies in the high part, one
within the low part lies there. -/

namespace State

variable (s : State)

/-- CONTROL (10, R187). -/
theorem controlWord_fields : s.controlWord.extractLsb' 0 8 = 0 ∧ s.controlWord.getLsbD 8 = s.settings.preemptEn ∧
    s.controlWord.extractLsb' 9 23 = 0 := by
  unfold controlWord
  refine ⟨?_, ?_, ?_⟩
  · simp (index := false) only [BitVec.extractLsb'_append_eq_of_add_le, Nat.reduceAdd, Nat.reduceLeDiff,
      BitVec.extractLsb'_eq_self]
  · rw [BitVec.getLsbD_append, BitVec.getLsbD_append]
    simp
  · simp (index := false) only [BitVec.extractLsb'_append_eq_of_le, Nat.reduceAdd, Nat.reduceLeDiff, Nat.reduceSub,
      BitVec.extractLsb'_eq_self]

/-- STATUS (10, R189). -/
theorem statusWord_fields :
    s.statusWord.extractLsb' 0 2 = s.fg.state.code ∧ s.statusWord.extractLsb' 2 2 = s.cmd.state.code ∧
      s.statusWord.getLsbD 4 = decide (s.worker.status ≠ .off) ∧
      s.statusWord.extractLsb' 5 8 = BitVec.ofNat 8 s.worker.moves ∧
      s.statusWord.extractLsb' 13 4 = BitVec.ofNat 4 s.requests.length ∧
      s.statusWord.extractLsb' 17 4 = BitVec.ofNat 4 s.deferred.length ∧
      s.statusWord.extractLsb' 21 5 = BitVec.ofNat 5 s.notices.length ∧
      s.statusWord.extractLsb' 26 6 = BitVec.ofNat 6 s.entriesInUse := by
  unfold statusWord
  refine ⟨?_, ?_, ?busy, ?_, ?_, ?_, ?_, ?_⟩
  case busy =>
    rw [BitVec.getLsbD_append, BitVec.getLsbD_append, BitVec.getLsbD_append]
    simp
  all_goals simp (index := false) only [BitVec.extractLsb'_append_eq_of_le, BitVec.extractLsb'_append_eq_of_add_le,
    Nat.reduceAdd, Nat.reduceLeDiff, Nat.reduceSub, BitVec.extractLsb'_eq_self]

/-- TIMING (10, section 10.2). -/
theorem timingWord_fields :
    s.timingWord.extractLsb' 0 4 = s.settings.d ∧ s.timingWord.extractLsb' 4 4 = 0 ∧
      s.timingWord.extractLsb' 8 6 = s.settings.k ∧ s.timingWord.extractLsb' 14 2 = 0 ∧
      s.timingWord.extractLsb' 16 4 = s.settings.m ∧ s.timingWord.extractLsb' 20 4 = 0 ∧
      s.timingWord.extractLsb' 24 8 = s.settings.u := by
  unfold timingWord
  refine ⟨?_, ?_, ?_, ?_, ?_, ?_, ?_⟩
  all_goals simp (index := false) only [BitVec.extractLsb'_append_eq_of_le, BitVec.extractLsb'_append_eq_of_add_le,
    Nat.reduceAdd, Nat.reduceLeDiff, Nat.reduceSub, BitVec.extractLsb'_eq_self]

/-- LIMITS (10, section 10.2). -/
theorem limitsWord_fields :
    s.limitsWord.extractLsb' 0 8 = s.settings.idleLimit ∧ s.limitsWord.extractLsb' 8 8 = s.settings.waitLimit ∧
      s.limitsWord.extractLsb' 16 16 = s.settings.maxTerm := by
  unfold limitsWord
  refine ⟨?_, ?_, ?_⟩
  all_goals simp (index := false) only [BitVec.extractLsb'_append_eq_of_le, BitVec.extractLsb'_append_eq_of_add_le,
    Nat.reduceAdd, Nat.reduceLeDiff, Nat.reduceSub, BitVec.extractLsb'_eq_self]

/-- RESULT (10, R193). -/
theorem resultWord_fields :
    s.resultWord.extractLsb' 0 8 = s.cmd.result.command ∧ s.resultWord.extractLsb' 8 8 = s.cmd.result.code.code ∧
      s.resultWord.extractLsb' 16 16 = s.cmd.result.value := by
  unfold resultWord
  refine ⟨?_, ?_, ?_⟩
  all_goals simp (index := false) only [BitVec.extractLsb'_append_eq_of_le, BitVec.extractLsb'_append_eq_of_add_le,
    Nat.reduceAdd, Nat.reduceLeDiff, Nat.reduceSub, BitVec.extractLsb'_eq_self]

end State

/-- A write received at a register whose write changes nothing keeps its phase alone (10, R186). -/
theorem exec_registerWrite_readOnly {s : State} {w : PortWrite} (h : s.receives w) :
    ∀ o ∈ ([0x00, 0x08, 0x14, 0x2C, 0x34, 0x38, 0x3C, 0x40] : List Byte),
      exec (.registerWrite o (.whole w)) s = .next (s.phaseKept o w.count) := by
  have hwrite : ∀ {o : Byte} (r : Register), registerAt o = some r → (s.phaseKept o w.count).writeRegister r w =
      s.phaseKept o w.count → exec (.registerWrite o (.whole w)) s = .next (s.phaseKept o w.count) := by
    intro o r hr hkeep
    rw [exec_registerWrite_whole hr h, hkeep]
  intro o ho
  simp only [List.mem_cons, List.not_mem_nil, or_false] at ho
  rcases ho with rfl | rfl | rfl | rfl | rfl | rfl | rfl | rfl
  · exact hwrite .ident rfl rfl
  · exact hwrite .status rfl rfl
  · exact hwrite .frame rfl rfl
  · exact hwrite .result rfl rfl
  · exact hwrite .view0 rfl rfl
  · exact hwrite .view1 rfl rfl
  · exact hwrite .view2 rfl rfl
  · exact hwrite .view3 rfl rfl

/-- Settles O7: a received write is its register's, which merges the counted bytes, and each register shows the word whose
fields are those of its layout. -/
theorem registerWritesTakeCountedBytes : Obligations.RegisterWritesTakeCountedBytes := by
  refine ⟨fun w s h => ⟨?arg0, ?arg1, ?attnEn, fun hr => ?control, exec_registerWrite_readOnly h⟩, fun s => ?shown⟩
  case arg0 =>
    exact ⟨_, exec_registerWrite_whole (r := .arg0) rfl h, fun k hk => w.extract_merge _ k hk⟩
  case arg1 =>
    exact ⟨_, exec_registerWrite_whole (r := .arg1) rfl h, fun k hk => w.extract_merge _ k hk⟩
  case attnEn =>
    exact ⟨_, exec_registerWrite_whole (r := .attnEn) rfl h, fun k hk => w.extract_merge _ k hk⟩
  case control =>
    have hvalue : w.value.extractLsb' 0 2 = 0 := by
      have hfield := w.extract_merge_field 0 (k := 0) (n := 2) (by decide) (by decide)
      rw [if_pos (count_pos_of_receives h)] at hfield
      refine hfield.trans ?_
      unfold PortWrite.frameRequest at hr
      split at hr
      · next hd => rw [hd]; rfl
      · next hd => rw [hd]; exact hr
    rw [exec_registerWrite_whole (r := .control) rfl h]
    exact congrArg Host.Outcome.next ((writeControl_phaseKept s w).trans (by rw [hvalue]; rfl))
  case shown =>
    exact ⟨rfl, rfl, rfl, rfl, rfl, rfl, rfl, rfl, rfl, rfl, rfl, rfl, s.controlWord_fields, s.statusWord_fields,
      s.timingWord_fields, s.limitsWord_fields, s.resultWord_fields, rfl, rfl, rfl⟩

/-! ### The configuration fields, judged each (10, R188) -/

theorem accepts_iff {n : Nat} (old new : BitVec n) (inRange : Bool) :
    accepts old new inRange = true ↔ new = old ∨ inRange = true := by
  simp [accepts]

/-- A field takes the written value where that is held already or in range. -/
theorem judgeField_eq {n : Nat} {old new : BitVec n} {inRange : Bool} {p : Prop} [Decidable p]
    (h : inRange = true ↔ p) : judgeField old new inRange = if new = old ∨ p then new else old := by
  simp only [judgeField, accepts_iff, h]

theorem dInRange_iff (g : GenState) (d : BitVec 4) :
    dInRange g d = true ↔ g = .stopped ∧ 2 ≤ d.toNat ∧ d.toNat ≤ 7 := by
  simp [dInRange, and_assoc]

theorem kInRange_iff (k : BitVec 6) : kInRange k = true ↔ 4 ≤ k.toNat ∧ k.toNat ≤ 32 := by
  simp [kInRange]

theorem mInRange_iff (m : BitVec 4) : mInRange m = true ↔ 2 ≤ m.toNat := by
  simp [mInRange]

theorem notZero_iff {n : Nat} (x : BitVec n) : notZero x = true ↔ x ≠ 0 := by
  simp [notZero]

/-- CTRL_IGNORED is set unless every field is taken. -/
theorem raiseIf_not {s : State} {b : Bool} {p : Prop} [Decidable p] (h : b = true ↔ p) :
    s.raiseIf (!b) .ctrlIgnored = s.setAttention (if p then s.attention else s.attention ||| 0x200) := by
  rw [raiseIf_form]
  by_cases hp : p
  · simp [hp, h.mpr hp]
  · have hb : b = false := by rw [← Bool.not_eq_true, h]; exact hp
    simp only [hp, hb, if_false]
    rfl

/-- A sixteen-bit field is that of its two bytes. -/
theorem extract_two_bytes (v : Word) (k : Nat) :
    v.extractLsb' (8 * k) 16 = v.extractLsb' (8 * (k + 1)) 8 ++ v.extractLsb' (8 * k) 8 := by
  apply BitVec.eq_of_getLsbD_eq
  intro i hi
  rw [BitVec.getLsbD_append]
  by_cases h : i < 8
  · simp [h, hi]
  · have hnext : 8 * (k + 1) + (i - 8) = 8 * k + i := by omega
    have hlt : i - 8 < 8 := by omega
    simp [h, hi, hnext, hlt]

/-- TIMING's covered fields take the low bits of their bytes, the others what is held (10, R183). -/
theorem timing_merge (s : State) (w : PortWrite) :
    (w.merge s.timingWord).extractLsb' 0 4 = (if 0 < w.count.toNat then (w.data.getD 0 0).setWidth 4 else s.settings.d) ∧
    (w.merge s.timingWord).extractLsb' 8 6 = (if 1 < w.count.toNat then (w.data.getD 1 0).setWidth 6 else s.settings.k) ∧
    (w.merge s.timingWord).extractLsb' 16 4 = (if 2 < w.count.toNat then (w.data.getD 2 0).setWidth 4 else s.settings.m) ∧
    (w.merge s.timingWord).extractLsb' 24 8 = (if 3 < w.count.toNat then w.data.getD 3 0 else s.settings.u) := by
  obtain ⟨hd, -, hk, -, hm, -, hu⟩ := s.timingWord_fields
  rw [← hd, ← hk, ← hm, ← hu, ← setWidth_byte (w.data.getD 3 0)]
  exact ⟨w.extract_merge_field _ (k := 0) (by decide) (by decide), w.extract_merge_field _ (k := 1) (by decide) (by decide),
    w.extract_merge_field _ (k := 2) (by decide) (by decide), w.extract_merge_field _ (k := 3) (by decide) (by decide)⟩

/-- LIMITS' covered bytes are those received, the others what is held (10, R183). -/
theorem limits_merge (s : State) (w : PortWrite) :
    (w.merge s.limitsWord).extractLsb' 0 8 = (if 0 < w.count.toNat then w.data.getD 0 0 else s.settings.idleLimit) ∧
    (w.merge s.limitsWord).extractLsb' 8 8 = (if 1 < w.count.toNat then w.data.getD 1 0 else s.settings.waitLimit) ∧
    (w.merge s.limitsWord).extractLsb' 16 16 =
      (if 3 < w.count.toNat then w.data.getD 3 0 else s.settings.maxTerm.extractLsb' 8 8) ++
        (if 2 < w.count.toNat then w.data.getD 2 0 else s.settings.maxTerm.extractLsb' 0 8) := by
  obtain ⟨hidle, hwait, -⟩ := s.limitsWord_fields
  have hlow : s.settings.maxTerm.extractLsb' 0 8 = s.limitsWord.extractLsb' (8 * 2) 8 := by
    unfold limitsWord
    simp (index := false) only [BitVec.extractLsb'_append_eq_of_le, Nat.reduceAdd, Nat.reduceMul, Nat.reduceLeDiff,
      Nat.reduceSub]
  have hhigh : s.settings.maxTerm.extractLsb' 8 8 = s.limitsWord.extractLsb' (8 * 3) 8 := by
    unfold limitsWord
    simp (index := false) only [BitVec.extractLsb'_append_eq_of_le, Nat.reduceAdd, Nat.reduceMul, Nat.reduceLeDiff,
      Nat.reduceSub]
  refine ⟨?_, ?_, ?_⟩
  · rw [← hidle]
    exact w.extract_merge _ 0 (by decide)
  · rw [← hwait]
    exact w.extract_merge _ 1 (by decide)
  · rw [hlow, hhigh, ← w.extract_merge _ 2 (by decide), ← w.extract_merge _ 3 (by decide)]
    exact extract_two_bytes _ 2

/-- Settles O8: each register's fields are judged on the values that the covered bytes make of them. -/
theorem configurationFieldsAreJudgedEach : Obligations.ConfigurationFieldsAreJudgedEach := by
  intro w s h
  refine ⟨⟨_, congrArg Host.Outcome.next (portWrite_receives (o := 0x18) (r := .timing) rfl h), ?timing⟩,
    ⟨_, congrArg Host.Outcome.next (portWrite_receives (o := 0x1C) (r := .limits) rfl h), ?limits⟩⟩
  case timing =>
    intro d k m u dTaken kTaken mTaken uTaken
    obtain ⟨hd, hk, hm, hu⟩ := timing_merge (s.phaseKept 0x18 w.count) w
    change (s.phaseKept 0x18 w.count).writeTiming w = _
    unfold writeTiming
    simp only [hd, hk, hm, hu]
    rw [judgeField_eq (dInRange_iff _ _), judgeField_eq (kInRange_iff _), judgeField_eq (mInRange_iff _),
      judgeField_eq (notZero_iff _), raiseIf_not (p := dTaken ∧ kTaken ∧ mTaken ∧ uTaken)]
    · rfl
    · simp only [Bool.and_eq_true, accepts_iff, dInRange_iff, kInRange_iff, mInRange_iff, notZero_iff, and_assoc]
      rfl
  case limits =>
    intro idle wait low high longest waitTaken longestTaken
    obtain ⟨hidle, hwait, hlongest⟩ := limits_merge (s.phaseKept 0x1C w.count) w
    change (s.phaseKept 0x1C w.count).writeLimits w = _
    unfold writeLimits
    simp only [hidle, hwait, hlongest]
    rw [judgeField_eq (notZero_iff _), judgeField_eq (notZero_iff _), raiseIf_not (p := waitTaken ∧ longestTaken)]
    · rfl
    · simp only [Bool.and_eq_true, accepts_iff, notZero_iff]
      rfl

end Sys2Proof.Machine
end

section
/-!
PROOFS. The port's transactions: what is acknowledged, what a write in progress and a read do event by event (10, R183-R185).
-/
namespace Sys2Proof.Machine

open State

theorem offsetNamed_iff (o : Byte) : offsetNamed o = true ↔ o.toNat % 4 = 0 ∧ o.toNat ≤ 0x40 := by
  unfold offsetNamed Config.lastOffset
  rw [Bool.and_eq_true, decide_eq_true_iff, decide_eq_true_iff]

theorem countNamed_iff (c : Byte) : countNamed c = true ↔ 1 ≤ c.toNat ∧ c.toNat ≤ 4 := by
  simp [countNamed]

namespace State

variable {s : State}

/-- A transaction that is not acknowledged is let pass (10, R183). -/
theorem portWrite_unacknowledged {o : Byte} {w : PortWrite} (stopped : Bool)
    (h : w.device ≠ s.deviceAddress ∨ o.toNat % 4 ≠ 0 ∨ 0x40 < o.toNat ∨ w.count.toNat = 0 ∨ 4 < w.count.toNat) :
    s.portWrite o w stopped = s.setTransaction (if stopped then .idle else .ignored) := by
  refine portWrite_refused s o w stopped ?_
  rw [← Bool.not_eq_true, ← Bool.not_eq_true, offsetNamed_iff, countNamed_iff]
  refine h.imp_right fun h => ?_
  omega

/-- Further bytes of a write in progress (10, R183): it takes effect at its last counted byte. -/
theorem portBytes_receiving {p c : Byte} {old : List Byte} {r : Register} (ht : s.port.transaction = .receiving p c old)
    (hr : registerAt p = some r) (data : List Byte) :
    s.portBytes data = (let t := s.setTransaction (.receiving p c ((old ++ data).take c.toNat))
      if old.length < c.toNat ∧ c.toNat ≤ (old ++ data).length
      then t.writeRegister r ⟨s.deviceAddress, c, (old ++ data).take c.toNat⟩ else t) := by
  unfold portBytes
  rw [ht]
  simp only [hr]

/-- Bytes with no write in progress change nothing (10, R183). -/
theorem portBytes_other (h : ∀ p c old, s.port.transaction ≠ .receiving p c old) (data : List Byte) :
    s.portBytes data = s := by
  unfold portBytes
  split
  · next p c old ht => exact absurd ht (h p c old)
  · rfl

/-- The host's answer to a byte sent (10, R184). -/
theorem portAnswer_sending {x : ReadTaken} {k : Nat} (ht : s.port.transaction = .sending x k) (a : Bool) :
    s.portAnswer a = s.setTransaction (if a then .sending x (k + 1) else .ignored) := by
  unfold portAnswer
  rw [ht]

/-- An answer outside a read changes nothing (10, R184). -/
theorem portAnswer_other (h : ∀ x k, s.port.transaction ≠ .sending x k) (a : Bool) : s.portAnswer a = s := by
  unfold portAnswer
  split
  · next x k ht => exact absurd ht (h x k)
  · rfl

/-- The port sends the bytes of a read, and nothing else (10, R184, R185). -/
theorem portSends_sending {x : ReadTaken} {k : Nat} (ht : s.port.transaction = .sending x k) :
    s.portSends = some (x.byte k) := by
  unfold portSends
  rw [ht]

theorem portSends_other (h : ∀ x k, s.port.transaction ≠ .sending x k) : s.portSends = none := by
  unfold portSends
  split
  · next x k ht => exact absurd ht (h x k)
  · rfl

end State

/-- Settles O6: a transaction is refused, short or complete; one in progress takes bytes, a read answers; each event of the
port has its lemma. -/
theorem portAcknowledgesTransactions : Obligations.PortAcknowledgesTransactions := by
  refine ⟨fun o w s => ⟨fun h => ?refused, fun hd ho4 ho hc1 hc4 => ⟨fun hshort => ?short, fun hfull => ?complete⟩,
    rfl, rfl, rfl, rfl, rfl, rfl, rfl, rfl, rfl⟩, fun o data s => ⟨fun p c old r ht hr => ?bytes, fun hother => ?stray, rfl⟩,
    fun device s => ⟨fun hd => ?otherRead, fun hd r hr => ?ownRead⟩, fun o s => ⟨fun x k ht => ?answer, fun hother => ?noRead⟩,
    fun x k => rfl, rfl⟩
  case refused =>
    exact ⟨congrArg Host.Outcome.next (portWrite_unacknowledged true h),
      congrArg Host.Outcome.next (portWrite_unacknowledged false h)⟩
  case short =>
    have hoff : offsetNamed o = true := (offsetNamed_iff o).mpr ⟨ho4, ho⟩
    have hcount : countNamed w.count = true := (countNamed_iff _).mpr ⟨hc1, hc4⟩
    exact ⟨congrArg Host.Outcome.next (portWrite_short s true hoff hd hcount hshort),
      congrArg Host.Outcome.next (portWrite_short s false hoff hd hcount hshort)⟩
  case complete =>
    have hoff : offsetNamed o = true := (offsetNamed_iff o).mpr ⟨ho4, ho⟩
    have hwhole : w.complete = true := by simp [PortWrite.complete, hc1, hc4, hfull]
    rw [← registerAt_isSome] at hoff
    obtain ⟨r, hr⟩ := Option.isSome_iff_exists.mp hoff
    exact ⟨r, hr, congrArg Host.Outcome.next (portWrite_complete s true hr hd hwhole),
      congrArg Host.Outcome.next (portWrite_complete s false hr hd hwhole)⟩
  case bytes =>
    intro t
    have hexec : exec (.registerWrite o (.bytes data)) s = .next (s.portBytes data) := rfl
    rw [hexec, portBytes_receiving ht hr]
    refine ⟨fun hopen => ?_, fun hopen hlast => ?_⟩
    · exact congrArg Host.Outcome.next (if_neg (by rw [List.length_append]; omega))
    · exact congrArg Host.Outcome.next (if_pos (by rw [List.length_append]; omega))
  case stray => exact congrArg Host.Outcome.next (portBytes_other hother data)
  case otherRead => exact ⟨portReadAddress_other s hd, fun o => congrArg Host.Outcome.next (portRead_other s hd)⟩
  case ownRead =>
    obtain rfl : device = s.deviceAddress := hd
    refine ⟨portReadAddress_own s hr, fun o => ?_, finishEvents_of_none⟩
    refine congrArg Host.Outcome.next ((portRead_own s hr).trans ?_)
    rw [setTransaction, port_finishEvents]
  case answer =>
    exact ⟨portSends_sending ht, congrArg Host.Outcome.next (portAnswer_sending ht true),
      congrArg Host.Outcome.next (portAnswer_sending ht false)⟩
  case noRead => exact ⟨portSends_other hother, fun a => congrArg Host.Outcome.next (portAnswer_other hother a)⟩

end Sys2Proof.Machine
end

section
/-!
PROOFS. The frame start: its number and marker, the turn, and the first one after power-on reset (06, R117, R126, R128; 07,
R135).
-/
namespace Sys2Proof.Machine

namespace State

variable {s : State}

/-! ### The last-served requester in the reactions to a frame start (03, R51) -/

@[simp] theorem lastServed_noteSpaceFreed (s : State) (before : Table Slot 54) :
    (s.noteSpaceFreed before).engine.lastServed = s.engine.lastServed := by
  rw [noteSpaceFreed_form]
  rfl

@[simp] theorem lastServed_overtake (s : State) (h : Handle) (p : Pos) :
    (s.overtake h p).engine.lastServed = s.engine.lastServed := by
  rw [overtake_form]
  rfl

@[simp] theorem lastServed_retire (s : State) (i : LeaseIdx) (r : EndReason) :
    (s.retire i r).engine.lastServed = s.engine.lastServed := by
  cases hl : s.leaseAt i with
  | none => rw [retire_none s r hl]
  | some l => rw [engine_retire s hl]

@[simp] theorem lastServed_reportVacated (s : State) (i : LeaseIdx) :
    (s.reportVacated i).engine.lastServed = s.engine.lastServed := by
  unfold reportVacated retireVacated
  repeat' split
  all_goals simp

@[simp] theorem lastServed_removeMove (s : State) (i : LeaseIdx) :
    (s.removeMove i).engine.lastServed = s.engine.lastServed := by
  unfold removeMove removeIncoming
  split <;> simp

@[simp] theorem lastServed_reportLive (s : State) (i : LeaseIdx) :
    (s.reportLive i).engine.lastServed = s.engine.lastServed := by
  unfold reportLive moveArrived
  repeat' split
  all_goals simp [completeMove_form]

@[simp] theorem lastServed_endMoveOf (s : State) (i : LeaseIdx) :
    (s.endMoveOf i).engine.lastServed = s.engine.lastServed := by
  unfold endMoveOf
  repeat' split
  all_goals simp

/-- A reaction to a frame start serves no requester (03, R51). -/
@[simp] theorem lastServed_takeReaction (s : State) (r : FrameReaction) :
    (s.takeReaction r).engine.lastServed = s.engine.lastServed := by
  have hvacate : s.takeVacate.engine.lastServed = s.engine.lastServed := by
    unfold takeVacate vacateStep
    split
    · exact (foldl_frame (fun s => s.engine.lastServed) _ lastServed_reportVacated _ _).trans (by simp)
    · rfl
  have hguard : s.takeGuardEnd.engine.lastServed = s.engine.lastServed := by
    unfold takeGuardEnd guardStep
    dsimp only
    split <;> simp [hvacate]
  cases r with
  | slotMap =>
    change s.takeGoLive.engine.lastServed = _
    unfold takeGoLive goLiveStep
    dsimp only
    split
    · exact (foldl_frame (fun s => s.engine.lastServed) _ lastServed_reportLive _ _).trans (by simpa using hguard)
    · exact hguard
  | untils => exact congrArg Engine.lastServed (engine_takeUntils s)
  | moveEnds =>
    change s.takeMoveEnds.engine.lastServed = _
    unfold takeMoveEnds moveEndsStep
    split
    · exact foldl_frame (fun s => s.engine.lastServed) _ lastServed_endMoveOf _ _
    · rfl
  | waits => exact congrArg Engine.lastServed (engine_takeWaits s)

/-- A reaction to a frame start makes no limit and no reclaim due, and takes none. -/
theorem due_takeReaction (s : State) (r : FrameReaction) :
    (s.takeReaction r).due.missed = s.due.missed ∧ (s.takeReaction r).due.reclaims = s.due.reclaims := by
  cases r <;> simp [takeReaction]

/-- What the reactions to the frame begun leave of the arbiter and of what is due. -/
theorem reactions_serve (first : List FrameReaction) (s : State) :
    (takeSteps (first.map .react) s.begun).engine.lastServed = s.engine.lastServed ∧
      (takeSteps (first.map .react) s.begun).due.missed = s.due.missed ∧
      (takeSteps (first.map .react) s.begun).due.reclaims = s.due.reclaims := by
  rw [takeSteps_react]
  exact ⟨foldl_frame (fun s => s.engine.lastServed) _ lastServed_takeReaction _ _,
    foldl_frame (fun s => s.due.missed) _ (fun x r => (due_takeReaction x r).1) _ _,
    foldl_frame (fun s => s.due.reclaims) _ (fun x r => (due_takeReaction x r).2) _ _⟩

@[simp] theorem lastServed_sendNotice (s : State) : s.sendNotice.engine.lastServed = s.engine.lastServed := by
  have hmove : ∀ (x : State) (i : LeaseIdx), (x.moveSent i).engine.lastServed = x.engine.lastServed := by
    intro x i
    unfold moveSent
    repeat' split
    all_goals simp [removeIncoming]
  have hreport : ∀ (x : State) (q : QueuedNotice), (x.reportSending q).engine.lastServed = x.engine.lastServed := by
    intro x q
    unfold reportSending
    repeat' split
    · rfl
    · unfold grantSent
      split <;> simp
    · exact hmove x _
    · unfold endSent
      split <;> simp
    · unfold endSent
      split <;> simp
    · rfl
  have hanswer : ∀ (x : State) (q : QueuedNotice), (x.reportAnswer q).engine = x.engine := by
    intro x q
    unfold reportAnswer recordHeld
    dsimp only
    repeat' split
    all_goals simp
  unfold sendNotice
  split
  · simp
  · rw [hanswer, hreport, engine_setNotices]

/-! ### The turn (07, R135) -/

/-- The place of an address in the order of turns: how far it comes after the pointer. -/
def turnPlace (pointer : Nat) (a : Trib) : Nat := (a.val + 30 - min pointer 30) % 30

/-- The order of turns holds every address. -/
theorem mem_turnOrder (pointer : Nat) (a : Trib) : a ∈ turnOrder pointer := by
  simp only [turnOrder, allTribs, List.mem_append, List.mem_filter, List.mem_finRange, true_and, decide_eq_true_eq]
  omega

/-- The order of turns is by place. -/
theorem turnOrder_sorted (pointer : Nat) :
    (turnOrder pointer).Pairwise fun a b => turnPlace pointer a < turnPlace pointer b := by
  have hsorted : allTribs.Pairwise (· < ·) := List.pairwise_lt_finRange 30
  unfold turnOrder
  refine List.pairwise_append.mpr ⟨?after, ?wrapped, fun a ha b hb => ?across⟩
  case after =>
    refine List.Pairwise.imp_of_mem (fun {a b} ha hb hab => ?_) (hsorted.filter _)
    have ha := of_decide_eq_true (List.mem_filter.mp ha).2
    have hab : a.val < b.val := hab
    unfold turnPlace
    omega
  case wrapped =>
    refine List.Pairwise.imp_of_mem (fun {a b} ha hb hab => ?_) (hsorted.filter _)
    have hb := of_decide_eq_true (List.mem_filter.mp hb).2
    have hab : a.val < b.val := hab
    unfold turnPlace
    omega
  case across =>
    have ha := of_decide_eq_true (List.mem_filter.mp ha).2
    have hb := of_decide_eq_true (List.mem_filter.mp hb).2
    unfold turnPlace
    omega

/-- The first in an order that satisfies a test is the one of lowest place. -/
theorem find?_eq_of_lowest {α : Type} {l : List α} {place : α → Nat} {p : α → Bool} {a : α}
    (hsorted : l.Pairwise fun x y => place x < place y) (ha : a ∈ l) (hp : p a = true)
    (hlow : ∀ x, p x = true → place a ≤ place x) : l.find? p = some a := by
  obtain ⟨x, hx⟩ := Option.isSome_iff_exists.mp (List.find?_isSome.mpr ⟨a, ha, hp⟩)
  obtain ⟨hpx, before, after, rfl, hbefore⟩ := List.find?_eq_some_iff_append.mp hx
  rw [hx]
  rcases List.mem_append.mp ha with hmem | hmem
  · exact absurd hp (by simpa using hbefore a hmem)
  · rcases List.mem_cons.mp hmem with rfl | hmem
    · rfl
    · have hlt := (List.pairwise_cons.mp (List.pairwise_append.mp hsorted).2.1).1 a hmem
      have hle := hlow x hpx
      omega

/-- The turn chosen is that of 07, R135. -/
theorem chosenTurn_is (s : State) : TurnIs s.chosenTurn s := by
  unfold TurnIs chosenTurn
  refine ⟨fun hopen => ?anyone, fun hk a ha hlow => ?owner⟩
  case anyone =>
    split
    · rfl
    · next hk =>
      have hnone : (turnOrder s.turnPointer).find? (fun t => s.speaks t) = none :=
        List.find?_eq_none.mpr fun a _ => by simpa using hopen.resolve_left hk a
      rw [hnone]
  case owner =>
    have hfind : (turnOrder s.turnPointer).find? (fun t => s.speaks t) = some a :=
      find?_eq_of_lowest (turnOrder_sorted _) (mem_turnOrder _ a) ha hlow
    rw [if_neg hk, hfind]

/-- The turn pointer once a turn is chosen (07, R135). -/
def pointerAfter (pointer : Nat) : Turn → Nat
  | .anyone => pointer
  | .owner a => a.val + 1

/-- Building the marker writes the turn pointer, the generator's words and note, and the uplink receiver's copies (06, R128). -/
theorem buildMarker_form (turn : Turn) (sent : Option Notice) (isOpen : Bool) (s : State) :
    s.buildMarker turn sent isOpen = ((s.setTurnPointer (pointerAfter s.turnPointer turn)).setFg { s.fg with
      resumed := false, marker := some (markerWord s.counter turn isOpen s.fg.resumed sent.isSome),
      downlink := some (downlinkWord sent) }).setUplink ⟨some turn, some isOpen, none⟩ := by
  cases turn <;> rfl

/-! ### The states of a frame start -/

/-- The state in which the order reads is one of the statements' own states. -/
theorem eq_afterSteps {pre post : List FrameStep} {u x : State} {j k n : Nat}
    (h : (n ≤ pre.length ∧ StepsTaken (pre.take n) s.begun x) ∨
      (pre.length < n ∧ StepsTaken (post.take (n - pre.length)) u x)) :
    x = afterSteps ⟨pre, post, j, k⟩ s.begun u n := by
  rcases h with ⟨hn, hx⟩ | ⟨hn, hx⟩
  · rw [afterSteps_before (order := ⟨pre, post, j, k⟩) hn]
    exact (stepsTaken_iff _ _ _).mp hx
  · rw [afterSteps_after (order := ⟨pre, post, j, k⟩) hn]
    exact (stepsTaken_iff _ _ _).mp hx

/-- With reactions alone before the sending, every state that the order reads has the frame begun, its request queue and its
turn pointer. -/
theorem afterSteps_reactions (first : List FrameReaction) (j k n : Nat) (s : State) :
    (afterSteps ⟨first.map .react, [], j, k⟩ s.begun
        (takeSteps (first.map .react) s.begun).sendNotice.markCopies n).counter = s.newFrame ∧
      (afterSteps ⟨first.map .react, [], j, k⟩ s.begun
        (takeSteps (first.map .react) s.begun).sendNotice.markCopies n).requests = s.requests ∧
      (afterSteps ⟨first.map .react, [], j, k⟩ s.begun
        (takeSteps (first.map .react) s.begun).sendNotice.markCopies n).settings = s.settings := by
  by_cases hn : n ≤ (first.map FrameStep.react).length
  · rw [afterSteps_before (order := ⟨first.map .react, [], j, k⟩) hn, ← List.map_take]
    obtain ⟨hfg, hreq, -, -, -, -, hset, -⟩ := reactions_frame (first.take n) s
    exact ⟨congrArg FrameGen.counter hfg, hreq, hset⟩
  · rw [afterSteps_after (order := ⟨first.map .react, [], j, k⟩) (Nat.not_le.mp hn), List.take_nil]
    obtain ⟨hfg, hreq, -, -, -, -, hset, -⟩ := reactions_frame first s
    obtain ⟨hfg', hreq', -, hset', -⟩ := sent_frame (takeSteps (first.map .react) s.begun)
    exact ⟨congrArg FrameGen.counter (hfg'.trans hfg), hreq'.trans hreq, hset'.trans hset⟩

/-- FRAME_START with reactions alone before the sending. -/
theorem exec_frameStart_reactions (first : List FrameReaction) (j k : Nat) (hq : s.quiet) (hf : s.frameFollows) :
    ∃ turn,
      ((s.newFrame.toNat % s.settings.k.toNat = 0) → turn = .anyone) ∧
      exec (.frameStart ⟨first.map .react, [], j, k⟩) s =
        .next ((takeSteps (first.map .react) s.begun).sendNotice.markCopies.buildMarker turn
          (takeSteps (first.map .react) s.begun).sentNotice (decide (s.requests.length < 12))) := by
  have hphase : (takeSteps (first.map .react) s.begun).fg.phase = .inFrame :=
    congrArg FrameGen.phase (reactions_frame first s).1
  obtain ⟨hcounter, -, hset⟩ := afterSteps_reactions first j k j s
  obtain ⟨-, hreq, -⟩ := afterSteps_reactions first j k k s
  refine ⟨(afterSteps ⟨first.map .react, [], j, k⟩ s.begun
    (takeSteps (first.map .react) s.begun).sendNotice.markCopies j).chosenTurn, fun hopen => (chosenTurn_is _).1 (.inl ?_),
    (exec_frameStart_sends _ j k hq hf ((stepsTaken_iff _ _ _).mpr rfl) hphase).trans ?_⟩
  · rw [hcounter, hset]
    exact hopen
  · unfold uplinkOpenNow
    rw [hreq]
    rfl

end State

open State

/-- The lines in a frame in progress whose words are driven (06, R114, R115). -/
theorem lines_inFrame {t : State} {m : BitVec 32} {d : BitVec 64} (hp : t.fg.phase = .inFrame)
    (hm : t.fg.marker = some m) (hd : t.fg.downlink = some d) :
    (∀ b, t.fsync b = decide (b = 0)) ∧ (∀ b, b < 32 → t.sdata b = some (m.getMsbD b)) ∧
      (∀ b, 32 ≤ b → b < 96 → t.sdata b = some (d.getMsbD (b - 32))) ∧ (∀ b, 96 ≤ b → t.sdata b = none) := by
  refine ⟨fun b => ?_, fun b hb => ?_, fun b hb hb' => ?_, fun b hb => ?_⟩
  · simp [fsync, hp]
  · simp [sdata, hp, hm, hb]
  · simp [sdata, hp, hd, hb', Nat.not_lt.mpr hb]
  · simp [sdata, hp, Nat.not_lt.mpr hb, Nat.not_lt.mpr (Nat.le_trans (by decide : 32 ≤ 96) hb)]

/-- The lines with no frame in progress (06, R116). -/
theorem lines_between {t : State} (hp : t.fg.phase ≠ .inFrame) (b : Nat) : t.fsync b = false ∧ t.sdata b = none := by
  simp [fsync, sdata, hp]

/-- No frame start follows in STOPPED, in HALTED, in a frame or once the frame of a halt is over (06, R120-R122, R126). -/
theorem not_frameFollows {s : State} (h : s.fg.state = .stopped ∨ s.fg.state = .halted ∨ s.fg.phase = .inFrame ∨
    (s.fg.state = .halting ∧ s.fg.phase = .between)) : ¬ s.frameFollows := by
  rcases h with h | h | h | ⟨h, h'⟩
  · simp [frameFollows, h]
  · simp [frameFollows, h]
  · simp [frameFollows, h]
  · simp [frameFollows, h, h']

/-- The wire form of an address is its number (07, R131). -/
theorem toNat_tribWire (a : Trib) : (Trib.wire a).toNat = a.val + 1 := by
  rw [Trib.wire, BitVec.toNat_ofNat, Nat.mod_eq_of_lt (by omega)]

/-- The marker's fields (08, R159). -/
theorem markerWord_fields (now : Frame) (turn : Turn) (isOpen resumed follows : Bool) :
    (markerWord now turn isOpen resumed follows).extractLsb' 16 16 = now ∧
    ((markerWord now turn isOpen resumed follows).extractLsb' 11 5).toNat = (match turn with
      | .anyone => 31
      | .owner a => a.val + 1) ∧
    (markerWord now turn isOpen resumed follows).getLsbD 10 = isOpen ∧
    (markerWord now turn isOpen resumed follows).getLsbD 9 = resumed ∧
    (markerWord now turn isOpen resumed follows).getLsbD 8 = follows := by
  unfold markerWord
  refine ⟨?_, ?_, ?_, ?_, ?_⟩
  · simp (index := false) only [BitVec.extractLsb'_append_eq_of_le, Nat.reduceAdd, Nat.reduceLeDiff, Nat.reduceSub,
      BitVec.extractLsb'_eq_self]
  · simp (index := false) only [BitVec.extractLsb'_append_eq_of_le, BitVec.extractLsb'_append_eq_of_add_le, Nat.reduceAdd,
      Nat.reduceLeDiff, Nat.reduceSub, BitVec.extractLsb'_eq_self]
    cases turn with
    | anyone => rfl
    | owner a => exact toNat_tribWire a
  all_goals
    simp (index := false) only [BitVec.getLsbD_append]
    simp

/-- CRC-8 takes its bits one by one (08, R159). -/
theorem crc8_append (l : List Bool) (b : Bool) :
    crc8 (l ++ [b]) = if b ^^ (crc8 l).msb then (crc8 l <<< 1) ^^^ 0x07 else crc8 l <<< 1 := by
  simp [crc8, checkStep]

/-- Settles O14: with reactions alone before the sending, the marker is built on the state that these leave; with any steps,
FRAME_START is the steps, the sending, the steps after it and the marker, or stops where a RESTART cut the frame off. -/
theorem frameStartNumbersAndMarksFrame : Obligations.FrameStartNumbersAndMarksFrame := by
  refine ⟨fun first j k s hq => ⟨fun hf => ?reactions, fun hnone order => exec_frameStart_none order hq (not_frameFollows hnone)⟩,
    fun pre s b hq hf hb => ⟨fun hcut post j k => ?cutBefore, fun hp => ?sends⟩,
    fun now turn isOpen resumed follows => ?marker, rfl, crc8_append⟩
  case reactions =>
    obtain ⟨turn, -, hexec⟩ := exec_frameStart_reactions first j k hq hf
    obtain ⟨hfg, hreq, -, -, hcred, hattn, hset, hport, hcmd, hpend⟩ := reactions_frame first s
    obtain ⟨hlast, hmissed, hreclaims⟩ := reactions_serve first s
    generalize takeSteps (first.map .react) s.begun = b at *
    obtain ⟨hfg', hreq', -, -, -, hcred', hattn', hset', hport', hcmd', hdue', hpend'⟩ := sendNotice_frame b
    rw [buildMarker_form] at hexec
    have hstate : b.sendNotice.markCopies.fg = { s.fg with counter := s.newFrame, phase := .inFrame } := hfg'.trans hfg
    refine ⟨_, turn, b.sentNotice, hexec, ?words, hreq'.trans hreq, hcred'.trans hcred, hset'.trans hset, hattn'.trans hattn,
      hport'.trans hport, hcmd'.trans hcmd, hpend'.trans hpend, (lastServed_sendNotice b).trans hlast,
      (congrArg Due.missed hdue').trans (hmissed.trans (congrArg Due.missed hq)),
      (congrArg Due.reclaims hdue').trans (hreclaims.trans (congrArg Due.reclaims hq))⟩
    case words =>
      simp only [counter, hstate]
      refine ⟨?_, rfl, lines_inFrame rfl rfl ?_⟩ <;> cases b.sentNotice <;> rfl
  case cutBefore =>
    have hb' := (stepsTaken_iff _ _ _).mp hb
    rw [exec_frameStart _ hq hf, frameStart, ← begun_eq, ← hb', if_neg hcut]
  case sends =>
    refine ⟨b.sendNotice.markCopies, b.sentNotice, fun post j k t ht => ?_⟩
    have hb' := (stepsTaken_iff _ _ _).mp hb
    have ht' := (stepsTaken_iff _ _ _).mp ht
    have hexec : exec (.frameStart ⟨pre, post, j, k⟩) s = .next (if t.fg.phase = .inFrame then
        t.buildMarker (afterSteps ⟨pre, post, j, k⟩ s.begun b.sendNotice.markCopies j).chosenTurn b.sentNotice
          (afterSteps ⟨pre, post, j, k⟩ s.begun b.sendNotice.markCopies k).uplinkOpenNow else t) := by
      rw [exec_frameStart _ hq hf, frameStart, ← begun_eq, ← hb', if_pos hp, ht']
    refine ⟨fun hcut => by rw [hexec, if_neg hcut], fun hin c r hreached => ⟨c.chosenTurn, chosenTurn_is c, ?_⟩⟩
    obtain ⟨hc, hr⟩ := hreached
    rw [hexec, if_pos hin, ← eq_afterSteps hc, ← eq_afterSteps hr, buildMarker_eq_markerBuilt]
  case marker =>
    obtain ⟨hnow, hturn, hopen, hresumed, hfollows⟩ := markerWord_fields now turn isOpen resumed follows
    exact ⟨hnow, hturn, hopen, hresumed, hfollows, markerWord_check now turn isOpen resumed follows⟩

/-- Settles O15: where the frame is in progress after the steps, none of them was a RESTART, so that every state between them
has the frame's number, the turn pointer and the configuration. -/
theorem frameStartChoosesTurn : Obligations.FrameStartChoosesTurn := by
  intro first j k s b c hq hf hb hp hj hc
  have hb' := (stepsTaken_iff _ _ _).mp hb
  have hc' := (stepsTaken_iff _ _ _).mp hc
  have hrest : b = takeSteps (first.drop j) c := by
    rw [hc', ← takeSteps_append, List.take_append_drop, hb']
  have hcb : Aside c b := hrest ▸ aside_takeSteps c (first.drop j) (hrest ▸ hp)
  have hsb : Aside s.begun b := hb' ▸ aside_takeSteps s.begun first (hb' ▸ hp)
  obtain ⟨hfg, hpointer, -, -, -, hset, -⟩ := hsb
  obtain ⟨hfg', hpointer', -, -, -, hset', -⟩ := hcb
  have hcounter : c.counter = s.newFrame := congrArg FrameGen.counter (hfg'.symm.trans hfg)
  have hk : c.settings = s.settings := hset'.symm.trans hset
  have hat : c.turnPointer = s.turnPointer := hpointer'.symm.trans hpointer
  have hsent : b.sendNotice.markCopies.turnPointer = s.turnPointer := (sent_frame b).2.2.1.trans hpointer
  have hturn := chosenTurn_is c
  rw [TurnIs, hcounter, hk, hat] at hturn
  obtain ⟨hanyone, howner⟩ := hturn
  have hexec := exec_frameStart_sends first j k hq hf hb hp
  rw [afterSteps_before (order := ⟨first, [], j, k⟩) hj, ← hc', buildMarker_form, hsent] at hexec
  refine ⟨_, c.chosenTurn, hexec, rfl, fun hopen => ⟨hanyone hopen, ?_⟩, fun hn a ha hlow => ⟨howner hn a ha hlow, ?_⟩⟩
  · change pointerAfter s.turnPointer c.chosenTurn = s.turnPointer
    rw [hanyone hopen]
    rfl
  · change pointerAfter s.turnPointer c.chosenTurn = a.val + 1
    rw [howner hn a ha hlow]
    rfl

/-- Settles O5: every other record is the reset one; after the first start request the frame is 0, which is OPEN. -/
theorem resetSetsEveryOtherRecord : Obligations.ResetSetsEveryOtherRecord := by
  intro straps s
  refine ⟨_, exec_powerOnReset straps s, rfl, rfl, fun a => Table.get_replicate _ a, rfl, rfl, rfl, rfl,
    fun a => Table.get_replicate _ a, rfl, rfl, rfl, fun i => Table.get_replicate _ i, rfl, rfl, rfl, rfl, rfl, rfl, rfl, rfl,
    fun order => exec_frameStart_none order rfl (not_frameFollows (.inl rfl)), lines_between (show FramePhase.between ≠ .inFrame by decide),
    fun w first j k h => ?started⟩
  case started =>
    let t := (State.reset.setPort { State.reset.port with straps := straps }).setPending s.pending
    have hphase : ((t.controlWritten w).frameRequest 1).fg.phase ≠ .inFrame := fun h => FramePhase.noConfusion h
    obtain ⟨turn, hopen, hexec⟩ := exec_frameStart_reactions (s := (t.controlWritten w).frameRequest 1) first j k rfl
      (.inl ⟨rfl, hphase⟩)
    rw [buildMarker_form] at hexec
    exact ⟨_, _, congrArg Host.Outcome.next (portWrite_request h), hexec, congrArg some (hopen rfl)⟩

end Sys2Proof.Machine
end

section
/-!
PROOFS. The arbiter, the rows that it hands no work, and placement (03, R51-R53, R58; 02, R40, R41; 01, R1).
-/
namespace Sys2Proof.Machine

/-- The first number that satisfies a test is the least one. -/
theorem find?_finRange_eq_some {n : Nat} {p : Fin n → Bool} {i : Fin n} :
    (List.finRange n).find? p = some i ↔ p i = true ∧ ∀ j, j < i → p j = false := by
  rw [List.find?_eq_some_iff_getElem]
  refine and_congr_right fun _ => ⟨?_, fun h => ⟨i.val, by simp, by simp, fun j hj => ?_⟩⟩
  · rintro ⟨k, hk, hki, hlow⟩ j hj
    have hval : k = i.val := by simpa using congrArg Fin.val hki
    simpa using hlow j.val (by rw [hval]; exact hj)
  · simpa using h ⟨j, by omega⟩ hj

theorem find?_finRange_eq_none {n : Nat} {p : Fin n → Bool} :
    (List.finRange n).find? p = none ↔ ∀ i, p i = false := by
  simp [List.find?_eq_none]

namespace State

variable {s : State}

/-! ### The arbiter (03, R51-R53) -/

theorem reserveMet_iff (s : State) : s.reserveMet = true ↔ s.notices.length ≤ 13 := by
  rw [reserveMet, decide_eq_true_iff]
  simp only [Config.noticeReserve, Config.noticeCapacity]
  omega

/-- The Bus requester is ready with a message and the reserve met (03, R52). -/
theorem busWork_eq (s : State) :
    s.busWork = if s.notices.length ≤ 13 then s.requests.head?.map .bus else none := by
  unfold busWork
  split
  · next h => simp [h]
  · next r rest h => simp [h, reserveMet_iff]

/-- The Management requester is ready with an ACCEPTED command and the reserve met (03, R52). -/
theorem managementWork_eq (s : State) :
    s.managementWork = if s.cmd.state = .accepted ∧ s.notices.length ≤ 13 then some .command else none := by
  simp only [managementWork, reserveMet_iff]

/-- A flagged address lower than which none is flagged is retired next (03, R53). -/
theorem internalWork_of_retirement {a : Trib} (ha : s.engine.retireFlags.get a = true)
    (hlow : ∀ b, b < a → s.engine.retireFlags.get b = false) : s.internalWork = some (.retirement a) := by
  have hfind : s.lowestRetirement = some a := find?_finRange_eq_some.mpr ⟨ha, hlow⟩
  rw [internalWork, hfind]

/-- With no address flagged the compaction step comes before the reconsideration pass, each with the reserve met (03, R52,
R53). -/
theorem internalWork_of_noRetirement (h : ∀ a, s.engine.retireFlags.get a = false) :
    s.internalWork = if s.engine.stepReady = true ∧ s.notices.length ≤ 13 then some .compaction
      else if s.engine.reconsider = true ∧ s.notices.length ≤ 13 then some .reconsider else none := by
  have hfind : s.lowestRetirement = none := find?_finRange_eq_none.mpr h
  rw [internalWork, hfind]
  simp only [reserveMet_iff]

/-! ### Rows that are handed no work (03, R51; notes/assumptions/1.md) -/

/-- A bus row whose kind of message is not handed out changes nothing. -/
theorem busItem_idle {act : Request → Option (State → State)}
    (h : ∀ r, s.nextWork = some (.bus r) → act r = none) : s.busItem act = s := by
  unfold busItem
  split
  · next r hr => rw [h r hr]
  · rfl

/-- A message whose sender does not speak is discarded (03, R58). -/
theorem busItem_discard {act : Request → Option (State → State)} {r : Request} (hw : s.nextWork = some (.bus r))
    (hs : s.speaks r.sender = false) (ha : act r ≠ none) : s.busItem act = s.headTaken := by
  obtain ⟨f, hf⟩ := Option.ne_none_iff_exists'.mp ha
  simp only [busItem, hw, hf, hs, Bool.false_eq_true, if_false]
  rfl

/-- A command row whose code is not handed out changes nothing. -/
theorem commandItem_idle {mine : Byte → Bool} {act : Word → Word → State → CommandReply}
    (h : s.nextWork = some .command → mine s.cmd.code = false) : s.commandItem mine act = s := by
  unfold commandItem
  refine if_neg fun hc => ?_
  rw [h hc.1] at hc
  exact absurd hc.2 (by decide)

/-- The row of a command's code is the command's. -/
theorem rowOfCode_code (c : CommandCode) : rowOfCode c.code = rowOfCommand c := by
  cases c <;> rfl

/-- The row of a code that names no command. -/
theorem rowOfCode_unknown {b : Byte} (h : commandCodes.contains b = false) : rowOfCode b = .unknownCommand := by
  have hall : ∀ c : CommandCode, c.code ∈ commandCodes := by
    intro c
    cases c <;> decide
  unfold rowOfCode
  split
  · next c hc =>
    have hcode : c.code = b := by simpa using List.find?_some hc
    rw [← hcode, List.contains_eq_mem, decide_eq_false_iff_not] at h
    exact absurd (hall c) h
  · rfl

/-- A command's row that is not handed out changes nothing. -/
theorem commandRow_idle (c : CommandCode) {act : Word → Word → State → CommandReply} (hh : s.heard)
    (h : s.nextWork.map s.rowOfWork ≠ some (rowOfCommand c)) : s.commandRow c act = .next s := by
  rw [commandRow, hear_of_heard hh, commandItem_idle fun hw => ?_]
  rw [decide_eq_false_iff_not]
  intro hcode
  rw [hw, Option.map_some, rowOfWork, hcode, rowOfCode_code] at h
  exact h rfl

/-- A message's row that is not handed out changes nothing. -/
theorem busRow_idle {act : Request → Option (State → State)} {c : Instr} (hh : s.heard)
    (hact : ∀ r, rowOfMessage r.message ≠ c → act r = none) (h : s.nextWork.map s.rowOfWork ≠ some c) :
    Host.Outcome.next (s.hear.busItem act) = (.next s : Result) := by
  rw [hear_of_heard hh, busItem_idle fun r hw => hact r fun hc => ?_]
  rw [hw, Option.map_some, rowOfWork, hc] at h
  exact h rfl

end State

open State

/-- The row of an engine item that is not handed out changes nothing (03, R51; notes/assumptions/1.md). -/
theorem exec_itemRow_idle {c : Instr} {s : State} (hh : s.heard) (hc : isItemRow c = true)
    (h : s.nextWork.map s.rowOfWork ≠ some c) : exec c s = .next s := by
  have hother : ∀ {w : Work}, s.rowOfWork w = c → s.hear.nextWork ≠ some w := by
    intro w hw hnext
    rw [hear_of_heard hh] at hnext
    rw [hnext, Option.map_some, hw] at h
    exact h rfl
  cases c <;> simp only [isItemRow, Bool.false_eq_true] at hc
  case request => exact busRow_idle hh (fun r hr => by cases hm : r.message <;> simp_all [rowOfMessage]) h
  case withdraw => exact busRow_idle hh (fun r hr => by cases hm : r.message <;> simp_all [rowOfMessage]) h
  case renew => exact busRow_idle hh (fun r hr => by cases hm : r.message <;> simp_all [rowOfMessage]) h
  case release => exact busRow_idle hh (fun r hr => by cases hm : r.message <;> simp_all [rowOfMessage]) h
  case query => exact busRow_idle hh (fun r hr => by cases hm : r.message <;> simp_all [rowOfMessage]) h
  case leave => exact busRow_idle hh (fun r hr => by cases hm : r.message <;> simp_all [rowOfMessage]) h
  case holderRetirement =>
    refine congrArg Host.Outcome.next ?_
    dsimp only
    split
    · next a ha => exact absurd ha (hother rfl)
    · exact hear_of_heard hh
  case compactionStep =>
    refine congrArg Host.Outcome.next ?_
    dsimp only
    split
    · next ha => exact absurd ha (hother rfl)
    · exact hear_of_heard hh
  case reconsiderationPass =>
    refine congrArg Host.Outcome.next ?_
    dsimp only
    split
    · next ha => exact absurd ha (hother rfl)
    · exact hear_of_heard hh
  case pin => exact commandRow_idle .pin hh h
  case unpin => exact commandRow_idle .unpin hh h
  case grantTo => exact commandRow_idle .grantTo hh h
  case revoke => exact commandRow_idle .revoke hh h
  case setQuota => exact commandRow_idle .setQuota hh h
  case bar => exact commandRow_idle .bar hh h
  case unbar => exact commandRow_idle .unbar hh h
  case evict => exact commandRow_idle .evict hh h
  case clearQ => exact commandRow_idle .clearQ hh h
  case compact => exact commandRow_idle .compact hh h
  case compactAbort => exact commandRow_idle .compactAbort hh h
  case flushDeferred => exact commandRow_idle .flushDeferred hh h
  case restart => exact commandRow_idle .restart hh h
  case unknownCommand =>
    rw [exec_unknownCommand, execUnknownCommand, hear_of_heard hh, commandItem_idle fun hw => ?_]
    rw [Bool.not_eq_false']
    by_contra hcode
    rw [hw, Option.map_some, rowOfWork, rowOfCode_unknown (by simpa using hcode)] at h
    exact h rfl

/-- The row of a message whose sender does not speak takes it from the queue, and nothing else (03, R58). -/
theorem exec_messageRow_discard {s : State} {r : Request} (hh : s.heard) (hw : s.nextWork = some (.bus r))
    (hs : s.speaks r.sender = false) : exec (rowOfMessage r.message) s = .next s.headTaken := by
  have hitem : ∀ {act : Request → Option (State → State)}, act r ≠ none →
      Host.Outcome.next (s.hear.busItem act) = (.next s.headTaken : Result) := by
    intro act ha
    rw [hear_of_heard hh, busItem_discard hw hs ha]
  cases hm : r.message <;> exact hitem (by simp [hm])

/-- Settles O33: the rotation is the model's own, with its parts in the statement's words. -/
theorem arbiterServesInRotation : Obligations.ArbiterServesInRotation := by
  intro s
  refine ⟨fun h => ?_, fun h => ?_, fun h => ?_, fun a => internalWork_of_retirement, internalWork_of_noRetirement⟩
  · rw [nextWork, h, ← busWork_eq, ← managementWork_eq, ← Option.or_assoc]
  · rw [nextWork, h, ← busWork_eq, ← managementWork_eq, ← Option.or_assoc]
  · rw [nextWork, h, ← busWork_eq, ← managementWork_eq, ← Option.or_assoc]

/-- Settles O34: a row that is not handed out is idle, and a message of a sender that does not speak is discarded. -/
theorem itemRowsActOnTheirWork : Obligations.ItemRowsActOnTheirWork :=
  ⟨fun _ _ => exec_itemRow_idle, fun _ _ => exec_messageRow_discard⟩

/-! ### Placement (02, R40, R41; 01, R1) -/

namespace State

variable {s : State}

/-- A wholly FREE run (02, R27, R40). -/
theorem runFree_iff (s : State) (c : LenClass) (p : Pos) : s.runFree c p = true ↔
    aligned c p.val = true ∧ ∀ q, p.val ≤ q → q < p.val + runLength c → (s.slotAt q).any Slot.isFree = true := by
  rw [runFree, Bool.and_eq_true]
  refine and_congr_right fun ha => ?_
  obtain ⟨h10, -, h64⟩ := (aligned_iff c p.val).mp ha
  have hrun : runLength c = 2 ^ c.val := rfl
  rw [List.all_eq_true]
  constructor
  · intro h q hq hq'
    obtain ⟨x, hx⟩ := Option.isSome_iff_exists.mp (slotAt_isSome s (p := q) (by omega) (by omega))
    rw [hx]
    exact h x ((mem_runSlots_iff s ha x).mpr ⟨q, hq, hq', hx⟩)
  · intro h x hx
    obtain ⟨q, hq, hq', hqx⟩ := (mem_runSlots_iff s ha x).mp hx
    simpa [hqx] using h q hq hq'

/-- A FREE record, written out: only its owner-until is not told (02, R40). -/
theorem any_isFree_iff (o : Option Slot) : o.any Slot.isFree = true ↔
    o = some ⟨none, none, none, none, false⟩ ∨ ∃ u, o = some ⟨none, some u, none, none, false⟩ := by
  rcases o with _ | ⟨owner, until_, incoming, guard, quarantine⟩
  · simp
  · rw [Option.any_some, Slot.isFree_iff]
    cases until_ <;> simp

/-- The search without a preferred start gives the lowest free run (02, R41). -/
theorem lowestFree_eq_some {c : LenClass} {p : Pos} :
    s.lowestFree c = some p ↔ s.runFree c p = true ∧ ∀ q, q < p → s.runFree c q = false :=
  find?_finRange_eq_some

theorem lowestFree_eq_none {c : LenClass} : s.lowestFree c = none ↔ ∀ p, s.runFree c p = false :=
  find?_finRange_eq_none

/-- The lowest-numbered FREE entry (01, R1). -/
theorem freeEntry_eq_some {i : LeaseIdx} :
    s.freeEntry = some i ↔ s.leaseAt i = none ∧ ∀ j, j < i → (s.leaseAt j).isSome = true := by
  rw [freeEntry, allLeases, find?_finRange_eq_some]
  simp [Option.isSome_iff_ne_none]

theorem freeEntry_eq_none : s.freeEntry = none ↔ ∀ i, (s.leaseAt i).isSome = true := by
  rw [freeEntry, allLeases, find?_finRange_eq_none]
  simp [Option.isSome_iff_ne_none]

/-- A preferred start that is free is taken (02, R41). -/
theorem placement_preferred {c : LenClass} {w : BitVec 6} (hw : w ≠ 0) (hfree : s.runFree c (posOf w) = true) :
    s.placement c w = some (posOf w) := if_pos ⟨hw, hfree⟩

/-- Otherwise the lowest free run is (02, R41). -/
theorem placement_lowest {c : LenClass} {w : BitVec 6} (h : w = 0 ∨ s.runFree c (posOf w) = false) :
    s.placement c w = s.lowestFree c := by
  refine if_neg fun hc => ?_
  rcases h with h | h
  · exact hc.1 h
  · exact absurd hc.2 (by simp [h])

theorem placement_eq_none {c : LenClass} {w : BitVec 6} : s.placement c w = none ↔ ∀ p, s.runFree c p = false := by
  by_cases h : w ≠ 0 ∧ s.runFree c (posOf w) = true
  · rw [placement_preferred h.1 h.2]
    simp only [reduceCtorEq, false_iff, not_forall]
    exact ⟨posOf w, by simp [h.2]⟩
  · rw [placement, if_neg h, lowestFree_eq_none]

end State

/-- Settles O35: each search is a first match in ascending order. -/
theorem placementTakesLowestFreeRun : Obligations.PlacementTakesLowestFreeRun := by
  intro s
  refine ⟨fun c p => ?run, fun c w => placement_preferred, fun c w p h => ?lowest, fun c w => placement_eq_none,
    fun i => freeEntry_eq_some, freeEntry_eq_none⟩
  case run =>
    rw [runFree_iff, aligned_iff]
    simp only [any_isFree_iff, and_assoc]
    rfl
  case lowest => rw [placement_lowest h, lowestFree_eq_some]

end Sys2Proof.Machine
end

section
/-!
PROOFS. What is taken before an event, and the claim monitor: reports first, wait expiry, samples and the verdict (03, R54;
04, R85; 09, R172-R180).
-/
namespace Sys2Proof.Machine

namespace State

variable {s : State}

/-! ### Reports are taken first (03, R54) -/

theorem takeVacate_of_taken (h : s.due.vacate = false) : s.takeVacate = s := by
  simp [takeVacate, h]

theorem takeGuardEnd_of_taken (hv : s.due.vacate = false) (hg : s.due.guardEnd = false) : s.takeGuardEnd = s := by
  simp [takeGuardEnd, takeVacate_of_taken hv, hg]

/-- The slot map unit's second step comes after its first, whether that was taken before or not (02, section 2.3). -/
theorem takeGuardEnd_takeVacate (s : State) : s.takeVacate.takeGuardEnd = s.takeGuardEnd := by
  have h : s.takeVacate.takeVacate = s.takeVacate := takeVacate_of_taken (by simp)
  rw [takeGuardEnd, h]
  rfl

/-- The third step comes after the first two (02, section 2.3). -/
theorem takeGoLive_takeGuardEnd (s : State) : s.takeGuardEnd.takeGoLive = s.takeGoLive := by
  have h : s.takeGuardEnd.takeGuardEnd = s.takeGuardEnd := takeGuardEnd_of_taken (by simp) (by simp)
  rw [takeGoLive, h]
  rfl

/-- The three rows of the slot map unit in their order are its application (02, section 2.3). -/
theorem takeSlotMap_rows (s : State) : s.takeVacate.takeGuardEnd.takeGoLive = s.takeGoLive := by
  rw [takeGuardEnd_takeVacate, takeGoLive_takeGuardEnd]

end State

open State

/-- An event later in the frame takes every outstanding report first (03, R54). -/
theorem exec_settle {c : Instr} (s : State) (h : settlesFirst c = true) : exec c s = exec c s.settle := by
  cases c with
  | haltComplete => simp only [exec, execHaltComplete, settle_settle]
  | frameStart order => simp only [exec, execFrameStart, settle_settle]
  | uplinkArrival bits => simp only [exec, execUplinkArrival, settle_settle]
  | claimSample p claim => simp only [exec, execClaimSample, settle_settle]
  | frameClose => simp only [exec, execFrameClose, settle_settle]
  | _ => exact Bool.noConfusion h

/-- An engine item takes what comes before it first (03, R54). -/
theorem exec_hear {c : Instr} (s : State) (h : isItemRow c = true) : exec c s = exec c s.hear := by
  have hall : ∀ f : State → State, Host.Outcome.next (f s.hear) = (.next (f s.hear.hear) : Result) :=
    fun f => by rw [hear_hear]
  cases c <;> simp only [isItemRow, Bool.false_eq_true] at h
  case holderRetirement => simp only [exec, execHolderRetirement, hear_hear]
  case compactionStep => simp only [exec, execCompactionStep, hear_hear]
  case reconsiderationPass => simp only [exec, execReconsiderationPass, hear_hear]
  all_goals exact hall _

/-- Settles O3: settling and hearing are the rows of what is due, each in its order. -/
theorem reportsAreTakenFirst : Obligations.ReportsAreTakenFirst := by
  refine ⟨due_settle, fun c s => exec_settle s, fun s => ?settle, fun s => ⟨heard_hear s, ?waits, fun hboth => ?both, fun hother => ?other⟩,
    fun c s => exec_hear s, fun s => ?hear⟩
  case settle =>
    refine ⟨_, _, _, _, _, _, _, rfl, rfl, rfl, rfl, rfl, rfl, rfl, ?_⟩
    rw [takeSlotMap_rows]
    rfl
  case waits =>
    rw [due_hear, due_finishTermEnds]
    split <;> rfl
  case both =>
    have h : (s.due.vacate && s.due.moveEnds) = true := by rw [hboth.1, hboth.2]; rfl
    rw [due_hear, due_finishTermEnds, if_pos h]
    exact ⟨hboth.1, hboth.2, rfl, rfl⟩
  case other =>
    have h : ¬ (s.due.vacate && s.due.moveEnds) = true := by rwa [Bool.and_eq_true]
    rw [due_hear, due_finishTermEnds, if_neg h]
    exact ⟨rfl, rfl, rfl, rfl⟩
  case hear =>
    refine ⟨_, _, _, _, _, rfl, rfl, rfl, rfl, rfl, ?_⟩
    rw [takeSlotMap_rows, hear, finishTermEnds]
    simp only [Bool.and_eq_true]
    rfl

/-! ### Wait expiry (04, R85) -/

/-- Notices submitted one after the other join the tail while there is room; the rest are dropped with NOTICE_DROP (08,
R165). -/
theorem submit_all (qs : List QueuedNotice) (s : State) : qs.foldl (fun s q => s.submit q) s =
    (s.setNotices (s.notices ++ qs.take (16 - s.notices.length))).setAttention
      (if qs.length ≤ 16 - s.notices.length then s.attention else s.attention ||| 0x080) := by
  induction qs generalizing s with
  | nil => simp
  | cons q rest ih =>
    rw [List.foldl_cons, ih, submit_form]
    by_cases h : s.notices.length < 16
    · have hroom : 16 - s.notices.length = 16 - (s.notices.length + 1) + 1 := by omega
      simp [h, hroom]
      rfl
    · have hfull : 16 - s.notices.length = 0 := by omega
      have hmask : Cause.noticeDrop.mask = 0x080 := rfl
      simp [h, hfull, hmask, BitVec.or_assoc]
      rfl

/-- Settles O25: the lapsed entries are taken out, and their refusals submitted in list order. -/
theorem waitsExpireInListOrder : Obligations.WaitsExpireInListOrder := by
  intro s h lapsed told
  have hexec : exec .waitExpiry s = .next (told.foldl (fun s q => s.submit q)
      ((s.setDue { s.due with waits := false }).setDeferred (s.deferred.filter fun d => !lapsed d))) := by
    refine congrArg Host.Outcome.next ?_
    rw [takeWaits, if_pos h, List.foldl_map]
    rfl
  rw [hexec, submit_all]
  rfl

/-! ### Claims (09) -/

/-- CLAIM_SAMPLE with nothing outstanding (09, R172). -/
theorem exec_claimSample_quiet {s : State} (hq : s.quiet) (p : Fin 64) (claim : Bool) :
    exec (.claimSample p claim) s = .next (if s.fg.phase = .inFrame ∧ claim then s.sample p else s) := by
  have h : exec (.claimSample p claim) s = execClaimSample p claim s := rfl
  rw [h, execClaimSample, settle_of_quiet s hq]

/-- Settles O30: a sample by its position and, from 10 on, by the record there. -/
theorem claimsAreJudgedByPosition : Obligations.ClaimsAreJudgedByPosition := by
  intro p s hq
  simp only [exec_claimSample_quiet hq]
  refine ⟨fun hp claim => ?between, ?unseen, fun hp => ⟨fun hlow => ?overhead, fun hmid hmid' => ?unjudged, fun x hx =>
    ⟨fun ho => ?trespass, fun i l ho hl hpin => ?pin, fun i l a ho hl ha => ?credit⟩⟩⟩
  case between => rw [if_neg fun h => hp h.1]
  case unseen => rw [if_neg fun h => absurd h.2 (by decide)]
  case overhead =>
    rw [if_pos ⟨hp, trivial⟩, sample, if_pos hlow]
    rfl
  case unjudged =>
    rw [if_pos ⟨hp, trivial⟩, sample, if_neg (Nat.not_lt.mpr hmid), judgeClaim, slotAt_overhead s hmid']
  all_goals
    have hlow : ¬ p.val < 6 := fun h => by rw [slotAt_overhead s (by omega)] at hx; exact absurd hx (by simp)
    rw [if_pos ⟨hp, trivial⟩, sample, if_neg hlow, judgeClaim, hx]
    simp only [ho]
  case trespass =>
    refine ⟨_, rfl, ?_, ?_, fun q hq => ?_⟩
    · rw [State.trespass, raiseIf_form]
      cases x.quarantine <;> rfl
    · have hslot : (s.trespass p.val x).slotAt p.val = (s.mapSlots fun q y =>
          if q = p.val then { y with quarantine := true } else y).slotAt p.val := slotAt_congr (by simp [State.trespass]) _
      rw [hslot, slotAt_mapSlots, hx]
      simp [ho]
    · have hslot : (s.trespass p.val x).slotAt q = (s.mapSlots fun q y =>
          if q = p.val then { y with quarantine := true } else y).slotAt q := slotAt_congr (by simp [State.trespass]) _
      rw [hslot, slotAt_mapSlots]
      simp [hq]
  case pin => simp [hl, hpin]
  case credit => simp [hl, ha]

/-- A lease's verdict (09, R177-R179), once its use fields are brought up to date. -/
theorem mem_verdicts {s : State} {i : LeaseIdx} {r : EndReason} :
    (i, r) ∈ allLeases.filterMap s.verdictOf ↔ ∃ l, s.leaseAt i = some l ∧ judged l = true ∧
      ((r = .notTakenUp ∧ l.takenUp = false ∧ ∃ st, l.startFrame = some st ∧
          s.settings.u.toNat ≤ (s.counter - st).toNat + 1) ∨
        (r = .idle ∧ l.takenUp = true ∧ s.settings.idleLimit ≠ 0 ∧ s.settings.idleLimit.toNat ≤ l.idle)) := by
  have htake : ∀ l : Lease, s.failsTakeUp l = true ↔ l.takenUp = false ∧ ∃ st, l.startFrame = some st ∧
      s.settings.u.toNat ≤ (s.counter - st).toNat + 1 := by
    intro l
    unfold failsTakeUp offsetFrom
    split
    · next st hst => simp [hst]
    · next hst => simp [hst]
  have hidle : ∀ l : Lease, s.failsIdle l = true ↔
      l.takenUp = true ∧ s.settings.idleLimit ≠ 0 ∧ s.settings.idleLimit.toNat ≤ l.idle := by
    intro l
    simp [failsIdle, and_assoc]
  rw [List.mem_filterMap]
  constructor
  · rintro ⟨j, -, hj⟩
    unfold verdictOf at hj
    split at hj
    · next l hl =>
      split at hj
      · next hjudged =>
        split at hj
        · next ht =>
          simp only [Option.some.injEq, Prod.mk.injEq] at hj
          obtain ⟨rfl, rfl⟩ := hj
          exact ⟨l, hl, hjudged, .inl ⟨rfl, (htake l).mp ht⟩⟩
        · split at hj
          · next hi =>
            simp only [Option.some.injEq, Prod.mk.injEq] at hj
            obtain ⟨rfl, rfl⟩ := hj
            exact ⟨l, hl, hjudged, .inr ⟨rfl, (hidle l).mp hi⟩⟩
          · exact absurd hj (by simp)
      · exact absurd hj (by simp)
    · exact absurd hj (by simp)
  · rintro ⟨l, hl, hjudged, h⟩
    refine ⟨i, List.mem_finRange i, ?_⟩
    rw [verdictOf, hl]
    rcases h with ⟨rfl, ht⟩ | ⟨rfl, hi⟩
    · simp [hjudged, (htake l).mpr ht]
    · have hnot : ¬ s.failsTakeUp l = true := fun h => by
        rw [htake, hi.1] at h
        exact absurd h.1 (by decide)
      simp [hjudged, hnot, (hidle l).mpr hi]

/-- The verdicts are in ascending order of index (09, R180). -/
theorem verdicts_sorted (s : State) : (allLeases.filterMap s.verdictOf).Pairwise fun x y => x.1 < y.1 := by
  have hindex : ∀ i x, s.verdictOf i = some x → x.1 = i := by
    intro i x hx
    unfold verdictOf at hx
    repeat' split at hx
    all_goals simp only [Option.some.injEq, reduceCtorEq] at hx
    all_goals exact (congrArg Prod.fst hx).symm
  refine List.Pairwise.filterMap _ (fun i j hij x hx y hy => ?_) (List.pairwise_lt_finRange 32)
  rw [hindex i x hx, hindex j y hy]
  exact hij

/-- Settles O31: the verdict is the model's, on the leases with their use fields brought up to date. -/
theorem frameCloseJudgesLeases : Obligations.FrameCloseJudgesLeases := by
  intro s hq hp
  have hexec : exec .frameClose s = .next s.closeFrame := by
    have h : exec .frameClose s = execFrameClose s := rfl
    rw [h, execFrameClose, settle_of_quiet s hq]
    exact congrArg _ (if_pos hp)
  refine ⟨_, hexec, rfl, fun i => Table.get_replicate _ i, fun i => ?leases, verdicts_sorted _, fun i r => mem_verdicts⟩
  case leases =>
    refine (Table.get_mapFrom _ _ _ i).trans ?_
    have hcredited : s.credited.cells.getD i.val false = s.credited.get i := by
      rw [List.getD_eq_getElem?_getD, Table.get_eq_getElem?]
      rfl
    simp only [judgeEntry, Nat.zero_add, hcredited]
    rfl

end Sys2Proof.Machine
end

section
/-!
PROOFS. The uplink: the layout of an arrival, the turn's outcome, JOINs in an OPEN turn and the owner's messages (08, R153,
R154, R156, R158, R161-R163; 07, R136-R146).
-/
namespace Sys2Proof.Machine

/-! ### The layout (08, R153, R154, R156, R158) -/

/-- A field of a field is a field. -/
theorem extract_extract {n : Nat} (x : BitVec n) {a b c d : Nat} (h : c + d ≤ b) :
    (x.extractLsb' a b).extractLsb' c d = x.extractLsb' (a + c) d := by
  apply BitVec.eq_of_getLsbD_eq
  intro i hi
  have hlt : c + i < b := by omega
  simp [hi, hlt, Nat.add_assoc]

/-- The bits of a message's payload are the first 48 of the word. -/
theorem bitsOf_payload (x : BitVec 64) : bitsOf (parseUplink x).payload = (List.range 48).map x.getMsbD := by
  unfold bitsOf
  refine List.map_congr_left fun i hi => ?_
  have hi := List.mem_range.mp hi
  have hlow : 47 - i < 48 := by omega
  have hpos : 16 + (47 - i) = 63 - i := by omega
  have hlt : i < 64 := by omega
  change (x.extractLsb' 16 48).getMsbD i = _
  simp [BitVec.getMsbD, hi, hlow, hpos, hlt]

/-- The kinds of 08, R156 that are no message of the list. -/
theorem sort_unknown {m : UplinkMessage} (h : m.kind = 0 ∨ 9 ≤ m.kind.toNat) : m.sort = .unknown := by
  have hne : ∀ k : BitVec 4, k ≠ 0 → k.toNat < 9 → m.kind ≠ k := by
    rintro k hk hlt rfl
    exact h.elim hk (Nat.not_le.mpr hlt)
  unfold UplinkMessage.sort
  rw [if_neg (hne 1 (by decide) (by decide)), if_neg (hne 2 (by decide) (by decide)),
    if_neg (hne 3 (by decide) (by decide)), if_neg (hne 4 (by decide) (by decide)),
    if_neg (hne 5 (by decide) (by decide)), if_neg (hne 6 (by decide) (by decide)),
    if_neg (hne 7 (by decide) (by decide)), if_neg (hne 8 (by decide) (by decide))]

/-- A JOIN is of kind 2 alone (08, R156). -/
theorem sort_ne_join {m : UplinkMessage} (h : m.kind ≠ 2) (identity : BitVec 16) : m.sort ≠ .join identity := by
  unfold UplinkMessage.sort
  rw [if_neg h]
  repeat' split
  all_goals exact fun h => UplinkKind.noConfusion h

namespace State

variable {s : State}

/-! ### Arrivals (08, R161) -/

/-- UPLINK_ARRIVAL with nothing outstanding (08, R161). -/
theorem exec_uplinkArrival_quiet (bits : BitVec 64) (hq : s.quiet) :
    exec (.uplinkArrival bits) s = .next (if s.fg.phase = .inFrame ∧ s.uplink.received = none
      then (s.setUplink { s.uplink with received := some bits }).classify (parseUplink bits) else s) := by
  have h : exec (.uplinkArrival bits) s = execUplinkArrival bits s := rfl
  rw [h, execUplinkArrival, settle_of_quiet s hq]

/-- The one arrival of a frame in progress (08, R161). -/
theorem exec_uplinkArrival_first (bits : BitVec 64) (hq : s.quiet) (hp : s.fg.phase = .inFrame)
    (hr : s.uplink.received = none) :
    exec (.uplinkArrival bits) s =
      .next ((s.setUplink { s.uplink with received := some bits }).classify (parseUplink bits)) := by
  rw [exec_uplinkArrival_quiet bits hq, if_pos ⟨hp, hr⟩]

/-- In an OPEN turn anything but a good JOIN from an address is discarded (08, R161; 07, R140). -/
theorem classify_anyone_discard {m : UplinkMessage} (ht : s.uplink.turn = some .anyone)
    (h : m.good = false ∨ m.kind ≠ 2 ∨ tribOf m.sender = none ∨ m.identity = 0) : s.classify m = s := by
  unfold classify
  rw [ht]
  dsimp only
  split
  · next hg =>
    split
    · next identity t hsort htrib =>
      rcases h with h | h | h | h
      · exact absurd hg (by simp [h])
      · exact absurd hsort (sort_ne_join h identity)
      · exact absurd htrib (by simp [h])
      · have hkind : m.kind = 2 := by
          by_contra hk
          exact sort_ne_join hk identity hsort
        have hsort' : m.sort = .join m.identity := by simp [UplinkMessage.sort, hkind]
        rw [hsort', UplinkKind.join.injEq] at hsort
        rw [join, if_pos (hsort ▸ h)]
    · rfl
  · rfl

/-- A good JOIN in an OPEN turn (07, R140). -/
theorem classify_anyone_join {m : UplinkMessage} {a : Trib} (ht : s.uplink.turn = some .anyone) (hg : m.good = true)
    (hk : m.kind = 2) (ha : m.sender = Trib.wire a) : s.classify m = s.join a m.identity m.seq := by
  have hsort : m.sort = .join m.identity := by simp [UplinkMessage.sort, hk]
  unfold classify
  simp only [ht, hg, hsort, ha, tribOf_wire, if_true]

/-- A turn of an owner that does not speak (07, R136). -/
theorem classify_owner_silent {m : UplinkMessage} {a : Trib} (ht : s.uplink.turn = some (.owner a))
    (hs : s.speaks a = false) : s.classify m = s := by
  unfold classify
  simp only [ht, hs, Bool.false_eq_true, if_false, missTurn, ite_self]

/-- An answered turn (07, R137). -/
theorem classify_owner_answered {m : UplinkMessage} {a : Trib} (ht : s.uplink.turn = some (.owner a))
    (hs : s.speaks a = true) (hg : m.good = true) (ha : m.sender = Trib.wire a) :
    s.classify m = (s.answerTurn a).ownerMessage a m := by
  unfold classify
  simp only [ht, hs, hg, ha, and_self, if_true]

/-- A missed turn (07, R137). -/
theorem classify_owner_missed {m : UplinkMessage} {a : Trib} (ht : s.uplink.turn = some (.owner a))
    (h : m.good = false ∨ m.sender ≠ Trib.wire a) : s.classify m = s.missTurn a := by
  unfold classify
  rw [ht]
  refine if_neg fun hc => ?_
  rcases h with h | h
  · exact absurd hc.1 (by simp [h])
  · exact h hc.2

/-- An answered turn writes the owner's entry, and ROSTER where it was SILENT (07, R137). -/
theorem answerTurn_form (s : State) (a : Trib) :
    s.answerTurn a = (s.setRoster (s.roster.set a { s.entry a with missed := 0, state := .present })).setAttention
      (if (s.entry a).state = .silent then s.attention ||| 0x004 else s.attention) := by
  unfold answerTurn
  rw [raiseIf_form]
  by_cases h : (s.entry a).state = .silent <;> simp only [h, decide_true, decide_false, if_true, if_false] <;> rfl

end State

open State

/-- Settles O27: what an OPEN turn discards, and the layout of an arrival field by field. -/
theorem openTurnDiscardsOtherArrivals : Obligations.OpenTurnDiscardsOtherArrivals := by
  refine ⟨fun bits s hq => ⟨fun hp hr ht h => ?discard, fun h => ?other⟩, fun x => ?layout⟩
  case discard =>
    refine (exec_uplinkArrival_first bits hq hp hr).trans (congrArg Host.Outcome.next (classify_anyone_discard ht ?_))
    rw [tribOf_none, or_assoc]
    exact h
  case other =>
    rw [exec_uplinkArrival_quiet bits hq, if_neg]
    rwa [not_and_or]
  case layout =>
    intro m
    refine ⟨rfl, rfl, rfl, ?index, extract_extract x (by decide), rfl, ?good, sort_unknown, fun h => ?_, fun h => ?_, fun h => ?_,
      fun h => ?_, fun h => ?_, fun h => ?_, fun h => ?_, fun h => ?_⟩
    case index => exact congrArg BitVec.toNat (extract_extract x (by decide))
    case good =>
      unfold UplinkMessage.good
      rw [decide_eq_true_iff, bitsOf_payload]
      rfl
    all_goals simp only [UplinkMessage.sort, h, BitVec.ofNat_eq_ofNat, BitVec.reduceEq, if_true, if_false]
    all_goals rfl

/-! ### The turn's outcome (07, R136, R137) -/

namespace State

variable {s : State} {a : Trib}

theorem takeMissed_silent (h : s.due.missed = some (a, .silent)) :
    s.takeMissed = ((s.setDue { s.due with missed := none }).setRoster
      (s.roster.set a { s.entry a with state := .silent })).flagSet 0x004 := by
  rw [takeMissed, h]
  rfl

theorem takeMissed_leaving (h : s.due.missed = some (a, .leaving)) :
    s.takeMissed = ((s.setDue { s.due with missed := none }).setRoster
      (s.roster.set a { s.entry a with state := .leaving })).setEngine
        { s.engine with retireFlags := s.engine.retireFlags.set a true } := by
  rw [takeMissed, h]
  rfl

theorem takeMissed_none (h : s.due.missed = none) : s.takeMissed = s := by
  rw [takeMissed, h]

/-- A missed turn counts, and at 2M it makes the owner LEAVING, at M a PRESENT owner SILENT (07, R137). -/
theorem missTurn_form (hs : s.speaks a = true) :
    s.missTurn a = (s.setRoster (s.roster.set a { s.entry a with missed := (s.entry a).missed + 1 })).setDue
      (if 2 * s.settings.m.toNat ≤ (s.entry a).missed + 1 then { s.due with missed := some (a, .leaving) }
        else if s.settings.m.toNat ≤ (s.entry a).missed + 1 ∧ (s.entry a).state = .present
        then { s.due with missed := some (a, .silent) } else s.due) := by
  unfold missTurn
  rw [if_pos hs]
  by_cases h : 2 * s.settings.m.toNat ≤ (s.entry a).missed + 1
  · rw [if_pos h]
    exact if_pos h
  · rw [if_neg h]
    refine (if_neg h).trans ?_
    by_cases h' : s.settings.m.toNat ≤ (s.entry a).missed + 1 ∧ (s.entry a).state = .present
    · rw [if_pos h']
      exact if_pos h'
    · rw [if_neg h']
      exact if_neg h'

/-- An entry replaced twice. -/
theorem table_set_set {α : Type} {n : Nat} (t : Table α n) (i : Fin n) (x y : α) : (t.set i x).set i y = t.set i y :=
  Table.ext_cells (List.set_set ..)

/-- The limit of 2M missed turns, applied (07, R137). -/
theorem takeMissed_missTurn_leaving (hq : s.quiet) (hs : s.speaks a = true)
    (h : 2 * s.settings.m.toNat ≤ (s.entry a).missed + 1) :
    (s.missTurn a).takeMissed = (s.setRoster (s.roster.set a { s.entry a with
      missed := (s.entry a).missed + 1, state := .leaving })).setEngine
        { s.engine with retireFlags := s.engine.retireFlags.set a true } := by
  have hdue : ({ s.due with missed := none } : Due) = s.due := by rw [hq]; rfl
  rw [missTurn_form hs, if_pos h, takeMissed_leaving (a := a) rfl]
  simp only [entry, roster_setDue, roster_setRoster, Table.get_set_eq, table_set_set]
  exact congrArg (fun d => ((s.setDue d).setRoster (s.roster.set a { s.entry a with
    missed := (s.entry a).missed + 1, state := .leaving })).setEngine
      { s.engine with retireFlags := s.engine.retireFlags.set a true }) hdue

/-- The limit of M missed turns of a PRESENT owner, applied (07, R137). -/
theorem takeMissed_missTurn_silent (hq : s.quiet) (hs : s.speaks a = true)
    (h : ¬ 2 * s.settings.m.toNat ≤ (s.entry a).missed + 1)
    (h' : s.settings.m.toNat ≤ (s.entry a).missed + 1 ∧ (s.entry a).state = .present) :
    (s.missTurn a).takeMissed = (s.setRoster (s.roster.set a { s.entry a with
      missed := (s.entry a).missed + 1, state := .silent })).flagSet 0x004 := by
  have hdue : ({ s.due with missed := none } : Due) = s.due := by rw [hq]; rfl
  rw [missTurn_form hs, if_neg h, if_pos h', takeMissed_silent (a := a) rfl]
  simp only [entry, roster_setDue, roster_setRoster, Table.get_set_eq, table_set_set]
  exact congrArg (fun d => ((s.setDue d).setRoster (s.roster.set a { s.entry a with
    missed := (s.entry a).missed + 1, state := .silent })).flagSet 0x004) hdue

/-- Short of a limit a missed turn makes nothing due (07, R137). -/
theorem due_missTurn_counted (hs : s.speaks a = true) (h : ¬ 2 * s.settings.m.toNat ≤ (s.entry a).missed + 1)
    (h' : ¬ (s.settings.m.toNat ≤ (s.entry a).missed + 1 ∧ (s.entry a).state = .present)) :
    (s.missTurn a).due = s.due := by
  rw [missTurn_form hs, if_neg h, if_neg h']
  rfl

end State

/-- Settles O26: the limit rows by what is due; an owned turn by whether its owner speaks and the message is its own. -/
theorem turnOutcomesAreApplied : Obligations.TurnOutcomesAreApplied := by
  refine ⟨fun s a => ⟨fun h => congrArg Host.Outcome.next (takeMissed_silent h),
    fun h => congrArg Host.Outcome.next (takeMissed_leaving h), fun h => congrArg Host.Outcome.next (takeMissed_none h)⟩,
    fun bits s a hq hp hr ht => ?owned⟩
  intro m base e
  have hexec : exec (.uplinkArrival bits) s = .next (base.classify m) := exec_uplinkArrival_first bits hq hp hr
  have hturn : base.uplink.turn = some (.owner a) := ht
  rw [hexec]
  refine ⟨fun hs _ _ => ?_, fun hs _ => ?_, fun hs hg ha hk => ?answered, fun hs h => ?missed⟩
  · rw [classify_owner_silent hturn hs]
  · rw [classify_owner_silent hturn hs]
  case answered =>
    have hnone : ∀ x : State, x.ownerMessage a m = x := by
      intro x
      have hsort : m.sort = .keep ∨ m.sort = .join m.identity ∨ m.sort = .unknown := by
        rcases hk with hk | hk | hk
        · exact .inl (by simp [UplinkMessage.sort, hk])
        · exact .inr (.inl (by simp [UplinkMessage.sort, hk]))
        · exact .inr (.inr (sort_unknown hk))
      rcases hsort with h | h | h <;> rw [ownerMessage, h]
    rw [classify_owner_answered hturn hs hg ha, hnone, answerTurn_form]
    rfl
  case missed =>
    have hquiet : base.quiet := hq
    have hspeaks : base.speaks a = true := hs
    rw [classify_owner_missed hturn h]
    refine ⟨_, _, rfl, rfl, ?_, fun hleave => takeMissed_missTurn_leaving hquiet hspeaks hleave, fun hstay hmiss hpresent =>
      takeMissed_missTurn_silent hquiet hspeaks (Nat.not_le.mpr hstay) ⟨hmiss, hpresent⟩, fun hstay hkeep => ?counted⟩
    · rw [missTurn_form hspeaks]
      rfl
    case counted =>
      have hnot : ¬ (base.settings.m.toNat ≤ (base.entry a).missed + 1 ∧ (base.entry a).state = .present) := by
        rintro ⟨hm, hpresent⟩
        rcases hkeep with hlt | hsilent
        · exact absurd hlt (Nat.not_lt.mpr hm)
        · exact absurd (hsilent.symm.trans hpresent) (by decide)
      have hdue : (base.missTurn a).due = Due.nothing :=
        (due_missTurn_counted hspeaks (Nat.not_le.mpr hstay) hnot).trans hq
      exact ⟨hdue, takeMissed_none (by rw [hdue]; rfl)⟩

/-! ### JOINs (07, R140-R143) -/

namespace State

variable {s : State} {a : Trib} {identity : BitVec 16} {seq : Bool}

/-- A JOIN may be accepted at an ABSENT entry, or by the device that the entry holds (07, R141, R142). -/
def joinable (a : Trib) (identity : BitVec 16) (s : State) : Prop :=
  (s.entry a).state = .absent ∨
    (((s.entry a).state = .present ∨ (s.entry a).state = .silent) ∧ (s.entry a).identity = some identity)

/-- An acceptable JOIN is accepted where the notice queue has room for its WELCOME (07, R141, R142). -/
theorem join_of_joinable (hi : identity ≠ 0) (h : s.joinable a identity) :
    s.join a identity seq = if s.notices.length < 16 then s.joined a identity seq else s := by
  unfold join
  rw [if_neg hi]
  by_cases hroom : s.notices.length < 16
  · rcases h with h | ⟨h | h, hid⟩
    · simp [h, hroom, Config.noticeCapacity]
    · simp [h, hid, hroom, Config.noticeCapacity]
    · simp [h, hid, hroom, Config.noticeCapacity]
  · rcases h with h | ⟨h | h, hid⟩
    · simp [h, hroom, Config.noticeCapacity]
    · simp [h, hid, hroom, Config.noticeCapacity]
    · simp [h, hid, hroom, Config.noticeCapacity]

/-- Any other JOIN is refused (07, R143). -/
theorem join_of_not_joinable (hi : identity ≠ 0) (h : ¬ s.joinable a identity) :
    s.join a identity seq =
      s.refuseJoin a identity seq (if (s.entry a).state = .barred then .barred else .addressInUse) := by
  unfold join
  rw [if_neg hi]
  unfold joinable at h
  cases he : (s.entry a).state with
  | absent => exact absurd (.inl he) h
  | present =>
    have hid : (s.entry a).identity ≠ some identity := fun hid => h (.inr ⟨.inl he, hid⟩)
    simp [hid]
  | silent =>
    have hid : (s.entry a).identity ≠ some identity := fun hid => h (.inr ⟨.inr he, hid⟩)
    simp [hid]
  | leaving => simp
  | barred => simp

/-- An accepted JOIN: the entry afresh, its WELCOME, and ROSTER unless it was PRESENT (07, R141, R142). -/
theorem joined_room (h : s.notices.length < 16) :
    s.joined a identity seq = ((s.setRoster (s.roster.set a { s.entry a with
      state := .present, identity := some identity, missed := 0, lastSeq := none, reply := none })).setNotices
        (s.notices ++ [⟨⟨a, none, seq, .welcome identity (BitVec.ofNat 6 (s.entry a).slotQuota)
          (BitVec.ofNat 4 (s.entry a).leaseQuota)⟩, none, false, false, none, false⟩])).setAttention
            (if (s.entry a).state = .present then s.attention else s.attention ||| 0x004) := by
  unfold joined welcome inform
  have hentry : ∀ e : RosterEntry, (s.setEntry a e).entry a = e := fun e => Table.get_set_eq _ _ _
  have hsubmit : ∀ e q, (s.setEntry a e).submit q = (s.setEntry a e).setNotices (s.notices ++ [q]) :=
    fun e q => submit_room _ h
  rw [raiseIf_form, hsubmit, hentry]
  by_cases hp : (s.entry a).state = .present <;> simp [hp] <;> rfl

end State

/-- Settles O28: a JOIN by the entry at its address and the room in the notice queue. -/
theorem joinsAreTakenByEntryState : Obligations.JoinsAreTakenByEntryState := by
  intro bits s a identity hq hp hr ht hg hk ha hid hne base e seq joinable
  have hexec : exec (.uplinkArrival bits) s = .next (base.join a identity seq) := by
    refine (exec_uplinkArrival_first bits hq hp hr).trans (congrArg Host.Outcome.next ?_)
    refine (classify_anyone_join (s := base) ht hg hk ha).trans ?_
    exact congrArg (fun i => base.join a i seq) hid
  rw [hexec]
  refine ⟨fun hj hroom => ?_, fun hj hfull => ?_, fun hj => ?_⟩
  · rw [join_of_joinable (s := base) hne hj, if_pos (show base.notices.length < 16 from hroom), joined_room (s := base) hroom]
    rfl
  · rw [join_of_joinable (s := base) hne hj, if_neg (show ¬ base.notices.length < 16 from Nat.not_lt.mpr hfull)]
  · rw [join_of_not_joinable (s := base) hne hj]
    refine ⟨fun hroom => ?_, fun hfull => ?_⟩
    · exact congrArg Host.Outcome.next (submit_room base hroom)
    · exact congrArg Host.Outcome.next (submit_full base hfull)

/-! ### The owner's messages (07, R145, R146; 08, R162, R163) -/

namespace State

variable {s : State} {a : Trib} {seq : Bool}

/-- A message to the lease engine that is no RENEW of 0 frames is passed on (08, R162). -/
theorem ownerMessage_engine {m : UplinkMessage} {msg : Message} (hm : m.sort = .engine msg)
    (h : ¬ ∃ h, msg = .renew h 0) : s.ownerMessage a m = s.takeMessage a msg m.seq := by
  unfold ownerMessage
  rw [hm]
  cases msg with
  | renew h' added => exact if_neg fun h0 => h ⟨h', by rw [h0]⟩
  | _ => rfl

/-- A RENEW of 0 frames is refused by the receiver (08, R162). -/
theorem ownerMessage_renew_zero {m : UplinkMessage} {h : Handle} (hm : m.sort = .engine (.renew h 0)) :
    s.ownerMessage a m = s.inform ⟨a, some h, m.seq, .refuse .badArgument 0⟩ := by
  unfold ownerMessage
  rw [hm]
  rfl

/-- With UPLINK_OPEN not shown a message is discarded (07, R145 step 3). -/
theorem takeMessage_closed {msg : Message} (h : s.uplink.uplinkOpen ≠ some true) : s.takeMessage a msg seq = s := by
  unfold takeMessage
  rw [if_neg h]

/-- A sequenced message whose bit is the last one taken is a duplicate: its reply copy is queued again (07, R146). -/
theorem takeMessage_duplicate {msg : Message} (h : s.uplink.uplinkOpen = some true) (hm : msg ≠ .leave)
    (hl : (s.entry a).lastSeq = some seq) : s.takeMessage a msg seq = (match (s.entry a).reply with
      | some c => s.requeueCopy c
      | none => s) := by
  unfold takeMessage
  rw [if_pos h]
  cases msg with
  | leave => exact absurd rfl hm
  | _ => exact if_pos hl

/-- A message of a sender with an entry in the queue is discarded (07, R145 step 5). -/
theorem takeMessage_queued {msg : Message} (h : s.uplink.uplinkOpen = some true)
    (hm : ¬ msg ≠ .leave ∨ (s.entry a).lastSeq ≠ some seq) (hq : s.hasRequest a = true) :
    s.takeMessage a msg seq = s := by
  unfold takeMessage
  rw [if_pos h]
  cases msg with
  | leave => exact if_pos hq
  | _ => exact (if_neg (hm.resolve_left (by simp))).trans (if_pos hq)

/-- Any other message joins the queue, and a sequenced one makes its bit the last one taken (07, R145 step 6). -/
theorem takeMessage_accepted {msg : Message} (h : s.uplink.uplinkOpen = some true)
    (hm : ¬ msg ≠ .leave ∨ (s.entry a).lastSeq ≠ some seq) (hq : s.hasRequest a = false) :
    s.takeMessage a msg seq = (s.setRoster (s.roster.set a
      (if msg ≠ .leave then { s.entry a with lastSeq := some seq, reply := none } else s.entry a))).setRequests
        (s.requests ++ [⟨a, msg, seq, s.counter⟩]) := by
  unfold takeMessage
  rw [if_pos h]
  cases msg with
  | leave =>
    refine (if_neg (by simp [hq])).trans ?_
    have hself : s.roster.set a (s.entry a) = s.roster := Table.ext_cells (List.set_getElem_self _)
    simp only [ne_eq, not_true_eq_false, if_false, hself]
    rfl
  | _ => exact (if_neg (hm.resolve_left (by simp))).trans (if_neg (by simp [hq]))

end State

/-- Settles O29: the turn is answered, and then the message goes through the steps of 07, R145. -/
theorem ownersMessagesAreQueuedOnce : Obligations.OwnersMessagesAreQueuedOnce := by
  intro bits s a msg hq hp hr ht hg ha hs hsort seq e base sequenced refused queued
  have hanswer : (s.setUplink { s.uplink with received := some bits }).answerTurn a = base := answerTurn_form _ a
  have hexec : exec (.uplinkArrival bits) s = .next (base.ownerMessage a (parseUplink bits)) := by
    refine (exec_uplinkArrival_first bits hq hp hr).trans (congrArg Host.Outcome.next ?_)
    rw [← hanswer]
    exact classify_owner_answered (s := s.setUplink { s.uplink with received := some bits }) ht hs hg ha
  have hentry : base.entry a = e := Table.get_set_eq _ _ _
  rw [hexec]
  refine ⟨fun h hm hroom => ?renewZero, fun ⟨h, hm⟩ hfull => ?renewZeroFull, fun hn hclosed => ?closed,
    fun hn hopen hm hl => ?duplicate, fun hn hopen hm hq => ?queued, fun hn hopen hm hq => ?accepted⟩
  case renewZero =>
    rw [ownerMessage_renew_zero (hsort.trans (by rw [hm]))]
    exact congrArg Host.Outcome.next (submit_room base hroom)
  case renewZeroFull =>
    rw [ownerMessage_renew_zero (hsort.trans (by rw [hm]))]
    exact congrArg Host.Outcome.next (submit_full base hfull)
  all_goals rw [ownerMessage_engine hsort hn]
  case closed => exact congrArg Host.Outcome.next (takeMessage_closed (s := base) hclosed)
  case duplicate =>
    rw [takeMessage_duplicate (s := base) hopen hm (by rw [hentry]; exact hl), hentry]
    refine ⟨fun hc => ?_, fun c hc hroom => ?_, fun c hc hfull => ?_⟩
    · rw [hc]
    · rw [hc]
      exact congrArg Host.Outcome.next (submit_room base hroom)
    · rw [hc]
      exact congrArg Host.Outcome.next (submit_full base hfull)
  case queued =>
    exact congrArg Host.Outcome.next (takeMessage_queued (s := base) hopen (by rw [hentry]; exact hm) hq)
  case accepted =>
    refine congrArg Host.Outcome.next ((takeMessage_accepted (s := base) hopen (by rw [hentry]; exact hm) hq).trans ?_)
    rw [hentry]
    have hset : ∀ x : RosterEntry, base.roster.set a x = s.roster.set a x := fun x => table_set_set _ _ _ _
    rw [hset]
    rfl

end Sys2Proof.Machine
end

section
/-!
PROOFS. Messages: a REQUEST refused, granted or deferred, WITHDRAW and QUERY (03, sections 3.3 and 3.4; 04, R76-R80; 03, R70).
-/
namespace Sys2Proof.Machine

namespace State

variable {s : State} {r : Request}

/-! ### A message that waits -/

/-- With room in the notice queue the model's answer is the statements' (03, R58; 07, R147). -/
theorem answer_eq_answered {u : State} (h : u.notices.length < 16) (k : Option LeaseIdx) (n : Notice) :
    u.answer k n = u.answered k n := answer_room u h k n

/-- The notice reserve leaves room for three notices of a message's item (03, R52). -/
theorem room_of_messageWaits (h : s.messageWaits r) : s.notices.length ≤ 13 := (room_of_bus h.2.1).1

/-- A bus row takes the message that waits, if it is of its kind (03, R58). -/
theorem busRow_of_messageWaits (h : s.messageWaits r) {act : Request → Option (State → State)} {f : State → State}
    (hf : act r = some f) : Host.Outcome.next (s.hear.busItem act) = (.next (f s.headTaken) : Result) := by
  obtain ⟨hh, hw, hs⟩ := h
  rw [hear_of_heard hh, busItem_waits hw hs, hf]
  rfl

theorem exec_request_of_waits (h : s.messageWaits r) {a : RequestArgs} (hm : r.message = .request a) :
    exec .request s = .next (s.headTaken.admitRequest r a) := busRow_of_messageWaits h (by rw [hm])

theorem exec_withdraw_of_waits (h : s.messageWaits r) (hm : r.message = .withdraw) :
    exec .withdraw s = .next (s.headTaken.withdrawDeferred r) := busRow_of_messageWaits h (by rw [hm])

theorem exec_renew_of_waits (h : s.messageWaits r) {k : Handle} {added : BitVec 16} (hm : r.message = .renew k added) :
    exec .renew s = .next (s.headTaken.renewLease r k added) := busRow_of_messageWaits h (by rw [hm])

theorem exec_release_of_waits (h : s.messageWaits r) {k : Handle} (hm : r.message = .release k) :
    exec .release s = .next (s.headTaken.releaseLease r k) := busRow_of_messageWaits h (by rw [hm])

theorem exec_query_of_waits (h : s.messageWaits r) {k : Handle} (hm : r.message = .query k) :
    exec .query s = .next (s.headTaken.queryLease r k) := busRow_of_messageWaits h (by rw [hm])

theorem exec_leave_of_waits (h : s.messageWaits r) (hm : r.message = .leave) :
    exec .leave s = .next (s.headTaken.holderRemoval r.sender .holderGone .absent) :=
  busRow_of_messageWaits (f := holderRemoval r.sender .holderGone .absent) h (by rw [hm])

theorem room_headTaken (h : s.messageWaits r) : s.headTaken.notices.length < 16 :=
  Nat.lt_of_le_of_lt (room_of_messageWaits (s := s) h) (by decide)

/-- A REFUSE that answers the message that waits (03, R65). -/
theorem refuse_headTaken (h : s.messageWaits r) (k : Option Handle) (why : RefusalReason) :
    s.headTaken.refuse r.sender r.seq k why = s.headTaken.answered none ⟨r.sender, k, r.seq, .refuse why 0⟩ :=
  answer_eq_answered (room_headTaken h) _ _

/-! ### Admission (03, section 3.3) -/

section Admission

variable {a : RequestArgs} {c : LenClass}

theorem admitRequest_outstanding (h : s.hasDeferred r.sender = true) :
    s.admitRequest r a = s.refuse r.sender r.seq none .outstanding := if_pos h

/-- A class above 4, or a term of 0, is refused (03, R60). -/
theorem admitRequest_badArgument (hd : s.hasDeferred r.sender = false) (h : 5 ≤ a.cls.toNat ∨ a.term = 0) :
    s.admitRequest r a = s.refuse r.sender r.seq none .badArgument := by
  unfold admitRequest
  rw [if_neg (by simp [hd])]
  split
  · rfl
  · next c hc =>
    have hcls : ¬ 5 ≤ a.cls.toNat := fun h5 => by
      rw [classOf, dif_neg (Nat.not_lt.mpr h5)] at hc
      exact absurd hc (by simp)
    exact if_pos (h.resolve_left hcls)

/-- Past the first two checks the quota decides (03, R61). -/
theorem admitRequest_named (hd : s.hasDeferred r.sender = false) (hc : c.val = a.cls.toNat) (ht : a.term ≠ 0) :
    s.admitRequest r a = if !s.withinQuota r.sender c then s.refuse r.sender r.seq none .quota
      else match s.freeEntry with
        | none => if a.defer then s.deferRequest r a c else s.refuseFull r .noEntry
        | some i =>
          match s.placement c a.preferred with
          | some start => s.grantRequest r a c i start
          | none => s.noSpace r a c i := by
  unfold admitRequest
  rw [if_neg (by simp [hd]), classOf_eq hc]
  exact if_neg ht

theorem admitRequest_quota (hd : s.hasDeferred r.sender = false) (hc : c.val = a.cls.toNat) (ht : a.term ≠ 0)
    (hq : s.withinQuota r.sender c = false) : s.admitRequest r a = s.refuse r.sender r.seq none .quota := by
  rw [admitRequest_named hd hc ht, hq]
  rfl

theorem admitRequest_noEntry (hd : s.hasDeferred r.sender = false) (hc : c.val = a.cls.toNat) (ht : a.term ≠ 0)
    (hq : s.withinQuota r.sender c = true) (he : s.freeEntry = none) :
    s.admitRequest r a = if a.defer then s.deferRequest r a c else s.refuseFull r .noEntry := by
  rw [admitRequest_named hd hc ht, hq, he]
  rfl

theorem admitRequest_placed (hd : s.hasDeferred r.sender = false) (hc : c.val = a.cls.toNat) (ht : a.term ≠ 0)
    (hq : s.withinQuota r.sender c = true) {i : LeaseIdx} (he : s.freeEntry = some i) {start : Pos}
    (hp : s.placement c a.preferred = some start) : s.admitRequest r a = s.grantRequest r a c i start := by
  rw [admitRequest_named hd hc ht, hq, he]
  simp only [hp]
  rfl

theorem admitRequest_unplaced (hd : s.hasDeferred r.sender = false) (hc : c.val = a.cls.toNat) (ht : a.term ≠ 0)
    (hq : s.withinQuota r.sender c = true) {i : LeaseIdx} (he : s.freeEntry = some i)
    (hp : s.placement c a.preferred = none) : s.admitRequest r a = s.noSpace r a c i := by
  rw [admitRequest_named hd hc ht, hq, he]
  simp only [hp]
  rfl

/-- Without a victim a request that finds no run is deferred or refused (03, R63). -/
theorem noSpace_of_noVictim {i : LeaseIdx} (h : s.settings.preemptEn = false ∨ s.candidates r a.priority c = []) :
    s.noSpace r a c i = if a.defer then s.deferRequest r a c else s.refuseFull r .noSpace := by
  have hnone : (if s.settings.preemptEn then chooseVictim (s.candidates r a.priority c) else none) = none := by
    rcases h with h | h
    · rw [h]
      rfl
    · rw [h]
      exact ite_self _
  rw [noSpace, hnone]

theorem hasDeferred_iff (s : State) (t : Trib) : s.hasDeferred t = false ↔ ∀ d ∈ s.deferred, d.sender ≠ t := by
  simp [hasDeferred]

end Admission

end State

open State

/-- Settles O36: each admission check that stops a REQUEST answers with its own reason. -/
theorem requestsAreRefusedInOrder : Obligations.RequestsAreRefusedInOrder := by
  intro s r a hw hm no waiting e fits
  have hno : ∀ why, s.headTaken.refuse r.sender r.seq none why = no why := refuse_headTaken hw none
  have hquota : ∀ c : LenClass, c.val = a.cls.toNat → (s.headTaken.withinQuota r.sender c = true ↔ fits) := by
    intro c hc
    rw [withinQuota_iff, hc]
    rfl
  rw [exec_request_of_waits hw hm]
  refine ⟨fun hd => ?_, fun hd hbad => ?_, fun hd hcls ht hq => ?_, fun hd hcls ht hq hdefer he => ?_,
    fun c hd hc ht hq hdefer he hp hv => ?_⟩
  · rw [admitRequest_outstanding (s := s.headTaken) hd, hno]
  · rw [admitRequest_badArgument (s := s.headTaken) hd hbad, hno]
  · have hq' : s.headTaken.withinQuota r.sender ⟨a.cls.toNat, hcls⟩ = false := by
      rw [← Bool.not_eq_true, hquota ⟨a.cls.toNat, hcls⟩ rfl]
      exact hq
    rw [admitRequest_quota (s := s.headTaken) hd rfl ht hq', hno]
  · rw [admitRequest_noEntry (s := s.headTaken) (c := ⟨a.cls.toNat, hcls⟩) hd rfl ht ((hquota _ rfl).mpr hq) he, hdefer]
    exact congrArg (fun x => Host.Outcome.next (x.raise .tableFull)) (hno .noEntry)
  · obtain ⟨i, hi⟩ := Option.ne_none_iff_exists'.mp he
    rw [admitRequest_unplaced (s := s.headTaken) hd hc ht ((hquota c hc).mpr hq) hi hp,
      noSpace_of_noVictim (s := s.headTaken) hv, hdefer]
    exact congrArg (fun x => Host.Outcome.next (x.raise .tableFull)) (hno .noSpace)

/-! ### A grant (03, R64; 01, R7, R15) -/

namespace State

variable {s : State} {r : Request} {a : RequestArgs} {c : LenClass}

/-- The granted term is the requested one, at most the limit (01, R7). -/
theorem grantedTerm_eq (s : State) (term : BitVec 16) :
    s.grantedTerm term = if term.toNat ≤ s.settings.maxTerm.toNat then term else s.settings.maxTerm := rfl

/-- A lease created: its record, its incoming entries and its holder's counts (01, R15). -/
theorem createLease_form (s : State) (i : LeaseIdx) (t : Trib) (o : Origin) (start : Pos) (c : LenClass)
    (priority : BitVec 2) (term : BitVec 16) (seq : Bool) :
    s.createLease i t o start c priority term seq = ((s.setLeases (s.leases.set i ⟨(s.leases.get i).generation, none,
      some ⟨.announcing, some t, o, start, c, priority, s.grantedTerm term, none, none, none, seq, false, 0, none,
        false⟩⟩)).setSlots (s.writeIncoming i start c).slots).setRoster (s.roster.set t { s.entry t with
          slotsHeld := (s.entry t).slotsHeld + runLength c, leasesHeld := (s.entry t).leasesHeld + 1 }) := rfl

/-- A request granted with room for its GRANT (03, R64; 07, R147). -/
theorem grantRequest_room (h : s.notices.length < 16) (i : LeaseIdx) (start : Pos) :
    s.grantRequest r a c i start = (((s.setLeases (s.leases.set i ⟨(s.leases.get i).generation, none,
      some ⟨.announcing, some r.sender, .bus, start, c, a.priority, s.grantedTerm a.term, none, none, none, r.seq, false, 0,
        none, false⟩⟩)).setSlots (s.writeIncoming i start c).slots).setRoster (s.roster.set r.sender { s.entry r.sender with
          slotsHeld := (s.entry r.sender).slotsHeld + runLength c, leasesHeld := (s.entry r.sender).leasesHeld + 1,
          reply := some ⟨s.grantNotice i r.sender start c a.term r.seq, none, false⟩ })).setNotices
            (s.notices ++ [⟨s.grantNotice i r.sender start c a.term r.seq, some i, true, false, none, false⟩]) := by
  refine (answer_room (s.createLease i r.sender .bus start c a.priority a.term r.seq) h (some i)
    (s.grantNotice i r.sender start c a.term r.seq)).trans ?_
  rw [createLease_form]
  simp only [setEntry, entry, roster_setNotices, roster_setRoster, grantNotice, Table.get_set_eq, table_set_set]
  rfl

/-- The incoming entries of a run are all that a grant writes in the slot map (02, R35). -/
theorem slotAt_setSlots_writeIncoming {t : State} {i : LeaseIdx} {start : Pos}
    (h : t.slots = (s.writeIncoming i start c).slots) (p : Nat) : t.slotAt p = (s.slotAt p).map fun x =>
      if start.val ≤ p ∧ p < start.val + 2 ^ c.val then { x with incoming := some ⟨i, none, none⟩ } else x :=
  (slotAt_congr h p).trans (slotAt_writeIncoming s i start c p)

end State

/-- Settles O37: a REQUEST that passes every check is granted in the entry and on the run found. -/
theorem requestIsGranted : Obligations.RequestIsGranted := by
  intro s r a c i start hw hm hd hc ht hslots hleases he hp term n
  have hroom := room_headTaken hw
  have hquota : s.headTaken.withinQuota r.sender c = true := (withinQuota_iff _ _ _).mpr ⟨hslots, hleases⟩
  refine ⟨_, (exec_request_of_waits hw hm).trans (congrArg Host.Outcome.next ((admitRequest_placed (s := s.headTaken)
    ((hasDeferred_iff _ _).mpr hd) hc ht hquota he hp).trans (grantRequest_room hroom i start))), rfl, ?_⟩
  exact slotAt_setSlots_writeIncoming (s := s) rfl

/-! ### Deferral (04, R76-R78) -/

namespace State

variable {s : State} {r : Request} {a : RequestArgs} {c : LenClass}

/-- The rank of an entry is after those of equal or higher priority (04, R76). -/
theorem rankOf_append {priority : BitVec 2} {above below : List Deferred} (ha : ∀ x ∈ above, priority ≤ x.priority)
    (hb : ∀ x ∈ below.head?, x.priority < priority) : rankOf priority (above ++ below) = above.length := by
  have hstop : below.takeWhile (fun d => decide (priority ≤ d.priority)) = [] := by
    cases below with
    | nil => rfl
    | cons x xs =>
      have hx : ¬ priority ≤ x.priority := BitVec.not_le.mpr (hb x rfl)
      simp [hx]
  unfold rankOf
  rw [List.takeWhile_append_of_pos fun x hx => decide_eq_true (ha x hx), hstop, List.append_nil]

/-- An entry inserted at its rank (04, R76). -/
theorem insertRanked_append {d : Deferred} {above below : List Deferred} (ha : ∀ x ∈ above, d.priority ≤ x.priority)
    (hb : ∀ x ∈ below.head?, x.priority < d.priority) : insertRanked d (above ++ below) = above ++ d :: below := by
  unfold insertRanked
  rw [rankOf_append ha hb, List.take_left, List.drop_left]

/-- A request that joins the deferred list is answered DEFER with its place (04, R77). -/
theorem insertDeferred_room {above below : List Deferred} (h : s.notices.length < 16)
    (hs : s.deferred = above ++ below) (ha : ∀ x ∈ above, a.priority ≤ x.priority)
    (hb : ∀ x ∈ below.head?, x.priority < a.priority) :
    s.insertDeferred r a c = (s.setDeferred (above ++ s.deferredOf r a c :: below)).answered none
      ⟨r.sender, none, r.seq, .defer (BitVec.ofNat 4 (above.length + 1)) s.settings.waitLimit⟩ := by
  unfold insertDeferred
  dsimp only
  rw [hs, rankOf_append ha hb, insertRanked_append (d := s.deferredOf r a c) ha hb]
  exact answer_eq_answered (u := s.setDeferred (above ++ s.deferredOf r a c :: below)) h _ _

/-- A request that lacks an entry or a run reaches deferral (03, R62, R63). -/
theorem admitRequest_deferred (hd : s.hasDeferred r.sender = false) (hc : c.val = a.cls.toNat) (ht : a.term ≠ 0)
    (hq : s.withinQuota r.sender c = true) (hdefer : a.defer = true)
    (hlack : s.freeEntry = none ∨ (s.placement c a.preferred = none ∧
      (s.settings.preemptEn = false ∨ s.candidates r a.priority c = []))) :
    s.admitRequest r a = s.deferRequest r a c := by
  cases he : s.freeEntry with
  | none => rw [admitRequest_noEntry hd hc ht hq he, if_pos hdefer]
  | some i =>
    obtain ⟨hp, hv⟩ := hlack.resolve_left (by simp [he])
    rw [admitRequest_unplaced hd hc ht hq he hp, noSpace_of_noVictim hv, if_pos hdefer]

end State

/-- Settles O39: a request that reaches deferral by the room in the list and the priority of its tail. -/
theorem requestsAreDeferredInRank : Obligations.RequestsAreDeferredInRank := by
  intro s r a c hw hm hd hc ht hslots hleases hdefer hlack d
  have hnotices := room_of_messageWaits hw
  have hquota : s.headTaken.withinQuota r.sender c = true := (withinQuota_iff _ _ _).mpr ⟨hslots, hleases⟩
  have hexec : exec .request s = .next (s.headTaken.deferRequest r a c) :=
    (exec_request_of_waits hw hm).trans (congrArg Host.Outcome.next
      (admitRequest_deferred (s := s.headTaken) ((hasDeferred_iff _ _).mpr hd) hc ht hquota hdefer hlack))
  rw [hexec, deferRequest]
  refine ⟨fun above below hs hroom ha hb => ?joins, fun above below tail hs hfull hlow ha hb => ?displaces,
    fun tail htail hfull hhigh => ?refused⟩
  case joins =>
    refine congrArg Host.Outcome.next ((if_pos hroom).trans ?_)
    exact insertDeferred_room (s := s.headTaken) (Nat.lt_of_le_of_lt hnotices (by decide)) hs ha hb
  case displaces =>
    have hlast : s.headTaken.deferred.getLast? = some tail := (congrArg List.getLast? hs).trans List.getLast?_concat
    have hdrop : s.headTaken.deferred.dropLast = above ++ below := (congrArg List.dropLast hs).trans List.dropLast_concat
    refine congrArg Host.Outcome.next ((if_neg (Nat.not_lt.mpr hfull)).trans ?_)
    simp only [hlast, if_pos hlow, hdrop]
    have htold : ((s.headTaken.setDeferred (above ++ below)).refuseDeferred .displaced tail) =
        (s.headTaken.setDeferred (above ++ below)).setNotices
          (s.notices ++ [⟨⟨tail.sender, none, tail.seq, .refuse .displaced 0⟩, none, false, false, none, false⟩]) :=
      submit_room (s.headTaken.setDeferred (above ++ below)) (Nat.lt_of_le_of_lt hnotices (by decide))
    have hcomm : ∀ ds ns, ((s.headTaken.setDeferred (above ++ below)).setNotices ns).setDeferred ds =
        (s.headTaken.setDeferred ds).setNotices ns := fun _ _ => rfl
    rw [htold, insertDeferred_room (by simp only [notices_setNotices, List.length_append, List.length_singleton]; omega)
      (above := above) (below := below) rfl ha hb, hcomm]
    rfl
  case refused =>
    have hlast : s.headTaken.deferred.getLast? = some tail := htail
    refine congrArg Host.Outcome.next ((if_neg (Nat.not_lt.mpr hfull)).trans ?_)
    simp only [hlast, if_neg (BitVec.not_lt.mpr hhigh)]
    exact refuse_headTaken hw none .deferFull

/-! ### WITHDRAW and QUERY (04, R80; 03, R70) -/

namespace State

variable {s : State} {r : Request}

theorem resolve_eq_none {h : Handle} (hs : s.leaseAt h.index = none ∨ (s.leases.get h.index).generation ≠ h.generation) :
    s.resolve h = none := by
  unfold resolve
  rcases hs with hs | hs
  · rw [hs]
    exact ite_self _
  · exact if_neg hs

/-- A lease's STATUS shows its end frame, or its term where it has none (03, R70). -/
theorem statusBody_eq (l : Lease) :
    statusBody l = .status l.state l.start l.cls (l.endFrame.getD l.term) l.endFrame.isSome := by
  unfold statusBody
  cases l.endFrame <;> rfl

end State

/-- Settles O40: WITHDRAW by the sender's deferred request, QUERY by the lease that its handle names. -/
theorem withdrawAndQueryAreAnswered : Obligations.WithdrawAndQueryAreAnswered := by
  intro s r hw
  have hroom := room_headTaken hw
  refine ⟨fun hm => ?withdraw, fun h hm => ⟨fun hstale => ?stale, fun l hl hg => ?named⟩⟩
  case withdraw =>
    rw [exec_withdraw_of_waits hw hm, withdrawDeferred]
    refine ⟨fun ⟨d, hd, hsender⟩ => ?_, fun hnone => ?_⟩
    · have hhas : s.headTaken.hasDeferred r.sender = true := by
        rw [← Bool.not_eq_false, hasDeferred_iff]
        exact fun hall => hall d hd hsender
      rw [if_pos hhas]
      exact congrArg Host.Outcome.next (answer_eq_answered
        (u := s.headTaken.setDeferred (s.deferred.filter fun d => decide (d.sender ≠ r.sender))) hroom _ _)
    · have hhas : s.headTaken.hasDeferred r.sender = false := (hasDeferred_iff _ _).mpr hnone
      rw [if_neg (by simp [hhas]), refuse_headTaken hw]
  case stale =>
    rw [exec_query_of_waits hw hm, queryLease, resolve_eq_none (s := s.headTaken) hstale]
    exact congrArg Host.Outcome.next (refuse_headTaken hw _ _)
  case named =>
    have hres : s.headTaken.resolve h = some l := resolve_eq_some.mpr ⟨hg, hl⟩
    rw [exec_query_of_waits hw hm, queryLease, hres]
    refine ⟨fun hother => ?_, fun hmine => ?_⟩
    · exact congrArg Host.Outcome.next ((if_pos hother).trans (refuse_headTaken hw _ _))
    · refine congrArg Host.Outcome.next ((if_neg (not_not.mpr hmine)).trans ?_)
      rw [statusBody_eq]
      exact answer_eq_answered hroom _ _

end Sys2Proof.Machine
end

section
/-!
PROOFS. Preemption and renewal; the compaction step and the reconsideration pass (03, R66-R68; 05, R90-R92, R102, R110; 04,
R82, R83).
-/
namespace Sys2Proof.Machine

namespace State

variable {s : State} {r : Request} {a : RequestArgs} {c : LenClass}

/-! ### The victim (03, R66, R67) -/

/-- `x` is the better victim: lower priority, then shorter run, then higher index (03, R67). -/
def BetterVictim (x y : LeaseIdx × Lease) : Prop :=
  x.2.priority < y.2.priority ∨ (x.2.priority = y.2.priority ∧
    (x.2.cls < y.2.cls ∨ (x.2.cls = y.2.cls ∧ y.1 ≤ x.1)))

/-- A better victim of higher index takes the place of the one held. -/
theorem preferred_of_better {x y : LeaseIdx × Lease} (h : BetterVictim y x) : preferred x.2 y.2 = true := by
  unfold preferred
  rw [Bool.or_eq_true, Bool.and_eq_true, decide_eq_true_iff, decide_eq_true_iff, decide_eq_true_iff]
  rcases h with h | ⟨h, h' | ⟨h', -⟩⟩
  · exact .inl h
  · exact .inr ⟨h, Fin.le_of_lt h'⟩
  · exact .inr ⟨h, Fin.le_of_eq h'⟩

/-- A better victim of lower index keeps its place. -/
theorem not_preferred_of_better {x y : LeaseIdx × Lease} (h : BetterVictim x y) (hlt : x.1 < y.1) :
    ¬ preferred x.2 y.2 = true := by
  unfold preferred
  rw [Bool.or_eq_true, Bool.and_eq_true, decide_eq_true_iff, decide_eq_true_iff, decide_eq_true_iff]
  rintro (hp | ⟨hp, hc⟩)
  · rcases h with h | ⟨h, -⟩
    · exact BitVec.lt_irrefl _ (BitVec.lt_trans h hp)
    · rw [h] at hp
      exact BitVec.lt_irrefl _ hp
  · rcases h with h | ⟨-, h | ⟨-, h⟩⟩
    · rw [hp] at h
      exact BitVec.lt_irrefl _ h
    · exact absurd hc (Fin.not_le.mpr h)
    · exact absurd h (Fin.not_le.mpr hlt)

/-- Of candidates in ascending order of index the best one is chosen (03, R67). -/
theorem foldl_preferred_of_best {v x : LeaseIdx × Lease} {rest : List (LeaseIdx × Lease)}
    (hsorted : (x :: rest).Pairwise fun x y => x.1 < y.1) (hv : v ∈ x :: rest)
    (hbest : ∀ y ∈ x :: rest, BetterVictim v y) :
    rest.foldl (fun best y => if preferred best.2 y.2 then y else best) x = v := by
  induction rest generalizing x with
  | nil => exact (List.mem_singleton.mp hv).symm
  | cons y ys ih =>
    obtain ⟨hx, hys⟩ := List.pairwise_cons.mp hsorted
    obtain ⟨hy, hys'⟩ := List.pairwise_cons.mp hys
    rw [List.foldl_cons]
    split
    · next hpref =>
      refine ih hys ?_ fun z hz => hbest z (List.mem_cons_of_mem _ hz)
      rcases List.mem_cons.mp hv with rfl | hv
      · exact absurd hpref (not_preferred_of_better (hbest y (by simp)) (hx y List.mem_cons_self))
      · exact hv
    · next hpref =>
      refine ih (List.pairwise_cons.mpr ⟨fun z hz => hx z (List.mem_cons_of_mem _ hz), hys'⟩) ?_ fun z hz => ?_
      · rcases List.mem_cons.mp hv with rfl | hv
        · exact List.mem_cons_self
        · rcases List.mem_cons.mp hv with rfl | hv
          · exact absurd (preferred_of_better (hbest x List.mem_cons_self)) hpref
          · exact List.mem_cons_of_mem _ hv
      · rcases List.mem_cons.mp hz with rfl | hz
        · exact hbest z List.mem_cons_self
        · exact hbest z (List.mem_cons_of_mem _ (List.mem_cons_of_mem _ hz))

/-- The candidates are in ascending order of index (03, R66). -/
theorem candidates_sorted (s : State) (r : Request) (p : BitVec 2) (c : LenClass) :
    (s.candidates r p c).Pairwise fun x y => x.1 < y.1 := by
  refine List.Pairwise.filterMap _ (fun i j hij x hx y hy => ?_) (List.pairwise_lt_finRange 32)
  have hindex : ∀ {i : LeaseIdx} {x : LeaseIdx × Lease}, (match s.leaseAt i with
      | some l => if s.isCandidate r p c l then some (i, l) else none
      | none => none) = some x → x.1 = i := by
    intro i x hx
    split at hx
    · split at hx
      · rw [← Option.some.inj hx]
      · exact absurd hx (by simp)
    · exact absurd hx (by simp)
  rw [hindex hx, hindex hy]
  exact hij

theorem isCandidate_iff (s : State) (r : Request) (p : BitVec 2) (c : LenClass) (l : Lease) :
    s.isCandidate r p c l = true ↔ l.state = .active ∧ l.origin ≠ .pin ∧ l.holder ≠ some r.sender ∧ l.priority < p ∧
      l.move = none ∧ c ≤ l.cls ∧ ∀ x ∈ s.runSlots l.start c, x.quarantine = false := by
  simp only [isCandidate, Bool.and_eq_true, decide_eq_true_eq, Option.isNone_iff_eq_none, List.all_eq_true,
    Bool.not_eq_true', and_assoc]

/-- The best candidate is the victim (03, R67). -/
theorem chooseVictim_of_best {v : LeaseIdx} {l : Lease} (hl : s.leaseAt v = some l)
    (hc : s.isCandidate r a.priority c l = true)
    (hbest : ∀ j k, s.leaseAt j = some k → s.isCandidate r a.priority c k = true → BetterVictim (v, l) (j, k)) :
    chooseVictim (s.candidates r a.priority c) = some (v, l) := by
  have hmem : (v, l) ∈ s.candidates r a.priority c := mem_candidates.mpr ⟨hl, hc⟩
  have hall : ∀ y ∈ s.candidates r a.priority c, BetterVictim (v, l) y := fun ⟨j, k⟩ hy => by
    obtain ⟨hk, hck⟩ := mem_candidates.mp hy
    exact hbest j k hk hck
  have hsorted := candidates_sorted s r a.priority c
  cases hcands : s.candidates r a.priority c with
  | nil =>
    rw [hcands] at hmem
    exact absurd hmem (by simp)
  | cons x rest =>
    rw [hcands] at hmem hall hsorted
    exact congrArg some (foldl_preferred_of_best hsorted hmem hall)

/-- An end decided with a REVOKED, of a lease that holds no UNSENT move, with room for the notice (01, R18; 05, R97). -/
theorem endWithRevoked_room {i : LeaseIdx} {l : Lease} {b : Trib} (hl : s.leaseAt i = some l) (hb : l.holder = some b)
    (hm : ∀ m, l.move = some m → m.effect ≠ none) (hroom : s.notices.length < 16) (why : EndReason) :
    s.endWithRevoked i l why = (s.setLease i { l with state := .ending, endReason := some why }).setNotices
      (s.notices ++ [⟨revokedNotice l (s.handleOf i) why b, some i, false, false, none, false⟩]) := by
  unfold endWithRevoked
  rw [decideEnd_of_unmoved hl hm]
  split
  · next hnone => exact absurd (hnone.symm.trans hb) (by simp)
  · next t ht =>
    obtain rfl : t = b := Option.some.inj (ht.symm.trans hb)
    exact submit_room (s.setLease i { l with state := .ending, endReason := some why }) hroom

end State

open State

/-- Settles O38: the best candidate is the victim; its end comes first, and the newcomer's grant is on what that leaves. -/
theorem preemptionTakesTheVictimsRun : Obligations.PreemptionTakesTheVictimsRun := by
  intro s r a c i v l b hw hm hd hc ht hslots hleases he hp hpre ⟨⟨hl, hcand⟩, hbest⟩ hb term n told
  have hnotices := room_of_messageWaits hw
  have hquota : s.headTaken.withinQuota r.sender c = true := (withinQuota_iff _ _ _).mpr ⟨hslots, hleases⟩
  have hiv : i ≠ v := by
    rintro rfl
    rw [leaseAt_of_freeEntry he] at hl
    exact absurd hl (by simp)
  have hunmoved : ∀ m, l.move = some m → m.effect ≠ none := fun m h => by
    rw [hcand.2.2.2.2.1] at h
    exact absurd h (by simp)
  have hvictim : chooseVictim (s.headTaken.candidates r a.priority c) = some (v, l) :=
    chooseVictim_of_best (s := s.headTaken) hl ((isCandidate_iff _ _ _ _ _).mpr hcand)
      fun j k hk hck => hbest j k ⟨hk, (isCandidate_iff _ _ _ _ _).mp hck⟩
  have hexec : exec .request s = .next (s.headTaken.preempt r a c i (v, l)) := by
    refine (exec_request_of_waits hw hm).trans (congrArg Host.Outcome.next ?_)
    rw [admitRequest_unplaced (s := s.headTaken) ((hasDeferred_iff _ _).mpr hd) hc ht hquota he hp, noSpace]
    have hsettings : s.headTaken.settings.preemptEn = true := hpre
    rw [if_pos hsettings, hvictim]
  have hend := endWithRevoked_room (s := s.headTaken) hl hb hunmoved (room_headTaken hw) .preempted
  have hgen : (s.headTaken.leases.set v { s.headTaken.leases.get v with
      lease := some { l with state := .ending, endReason := some .preempted } }).get i = s.leases.get i :=
    Table.get_set_ne _ _ hiv
  have hroom : ((s.headTaken.setLease v { l with state := .ending, endReason := some .preempted }).setNotices
      (s.headTaken.notices ++ [⟨revokedNotice l (s.headTaken.handleOf v) .preempted b, some v, false, false, none,
        false⟩])).notices.length < 16 := by
    rw [notices_setNotices, List.length_append]
    exact Nat.lt_of_le_of_lt (Nat.add_le_add_right hnotices 1) (by decide)
  have hgrant : s.headTaken.preempt r a c i (v, l) = _ :=
    (congrArg (grantRequest r a c i l.start) hend).trans (grantRequest_room hroom i l.start)
  refine ⟨_, hexec.trans (congrArg Host.Outcome.next hgrant), ?_, slotAt_setSlots_writeIncoming (s := s) rfl⟩
  simp only [grantNotice, handleOf, setLease, leases_setNotices, leases_setLeases, notices_setNotices, hgen,
    List.append_assoc]
  rfl

/-! ### RENEW (01, R8; 05, R90-R92) -/

namespace State

variable {s : State} {r : Request}

theorem sentMove_iff (l : Lease) : sentMove l = true ↔ ∃ m f, l.move = some ⟨m, some f⟩ := by
  unfold sentMove
  split
  · next m hm =>
    obtain ⟨p, e⟩ := m
    cases e <;> simp [hm]
  · next hm => simp [hm]

/-- The until of an end frame (01, R10, R17). -/
theorem untilWord_eq {l : Lease} {st e : Frame} (hs : l.startFrame = some st) (he : l.endFrame = some e) (now : Frame) :
    l.untilWord now =
      if (e - now).toNat ≤ 32767 ∨ (e - st).toNat ≤ (now - st).toNat then some e else none := by
  unfold Lease.untilWord Lease.endCome
  rw [hs, he]
  exact if_congr (by rw [Bool.or_eq_true, decide_eq_true_iff, decide_eq_true_iff]; rfl) rfl rfl

/-- The untils written change the slot map alone (01, R10; 02, R36). -/
theorem writeUntils_eq {i : LeaseIdx} {l : Lease} (hl : s.leaseAt i = some l) :
    s.writeUntils i = s.mapSlots fun _ => Slot.writeUntil i (l.ownerWord s.counter s.settings.d)
      (l.untilWord s.counter) := by
  unfold writeUntils
  rw [hl]

theorem slotAt_writeUntils {i : LeaseIdx} {l : Lease} (hl : s.leaseAt i = some l) (p : Nat) :
    (s.writeUntils i).slotAt p = (s.slotAt p).map (Slot.writeUntil i (l.ownerWord s.counter s.settings.d)
      (l.untilWord s.counter)) := by
  rw [writeUntils_eq hl, slotAt_mapSlots]

theorem leaseAt_setLease_self (s : State) (i : LeaseIdx) (l : Lease) : (s.setLease i l).leaseAt i = some l := by
  rw [leaseAt_setLease, if_pos rfl]

/-- The term after a renewal (01, R8). -/
theorem renewedTerm_eq (s : State) (term added : BitVec 16) :
    s.renewedTerm term added =
      (let cap := if s.settings.maxTerm = 65535 then 65534 else s.settings.maxTerm
       if cap.toNat < term.toNat then term else BitVec.ofNat 16 (min (term.toNat + added.toNat) cap.toNat)) := rfl

/-- A renewal of a lease that is not ACTIVE writes its term (05, R91). -/
theorem extend_of_not_active {h : Handle} {l : Lease} (hl : l.state ≠ .active) (added : BitVec 16) :
    s.extend r h l added = (s.setLease h.index { l with term := s.renewedTerm l.term added }).answer none
      ⟨r.sender, some h, r.seq, .renewed (s.renewedTerm l.term added) true⟩ := by
  unfold extend
  dsimp only
  split
  · next ha _ => exact absurd ha hl
  · rfl

/-- A renewal of an ACTIVE lease to a finite term also writes its end frame and its untils (05, R92). -/
theorem extend_of_active {h : Handle} {l : Lease} {st : Frame} {added : BitVec 16} (hl : l.state = .active)
    (hs : l.startFrame = some st) (ht : s.renewedTerm l.term added ≠ 65535) :
    s.extend r h l added = ((s.setLease h.index { l with
      term := s.renewedTerm l.term added, endFrame := some (st + s.renewedTerm l.term added) }).writeUntils h.index).answer
        none ⟨r.sender, some h, r.seq, .renewed (st + s.renewedTerm l.term added) false⟩ := by
  have hend : ({ l with term := s.renewedTerm l.term added } : Lease).termEnd = some (st + s.renewedTerm l.term added) := by
    exact (if_neg ht).trans (congrArg (Option.map (· + s.renewedTerm l.term added)) hs)
  unfold extend
  dsimp only
  split
  · next e _ he =>
    obtain rfl : st + s.renewedTerm l.term added = e := Option.some.inj (hend.symm.trans he)
    rfl
  · next hno => exact absurd hend (hno _ hl)

end State

/-- Settles O41: the checks of a RENEW, and the renewal of a lease by its state. -/
theorem renewExtendsTheTerm : Obligations.RenewExtendsTheTerm := by
  intro s r h added hw hm no
  have hroom := room_headTaken hw
  have hno : ∀ why, s.headTaken.refuse r.sender r.seq (some h) why = no why := refuse_headTaken hw (some h)
  rw [exec_renew_of_waits hw hm]
  refine ⟨fun hstale => ?stale, fun l hl hg => ⟨fun hother => ?other, fun hmine hbad => ?wrong,
    fun hmine hstate hfinite hmove => ?renewed⟩⟩
  case stale =>
    rw [renewLease, resolve_eq_none (s := s.headTaken) hstale]
    exact congrArg Host.Outcome.next (hno .badHandle)
  all_goals
    have hres : s.headTaken.resolve h = some l := resolve_eq_some.mpr ⟨hg, hl⟩
    rw [renewLease, hres]
  case other => exact congrArg Host.Outcome.next ((if_pos hother).trans (hno .notHolder))
  case wrong =>
    refine congrArg Host.Outcome.next ((if_neg (not_not.mpr hmine)).trans ((if_pos ?_).trans (hno .wrongState)))
    rwa [sentMove_iff]
  case renewed =>
    intro cap term
    have hok : ¬ (l.state = .ending ∨ l.term = Config.openTerm ∨ sentMove l = true) := by
      rw [sentMove_iff]
      rintro (h1 | h1 | ⟨m, f, h1⟩)
      · exact hstate h1
      · exact hfinite h1
      · exact absurd (hmove _ h1) (by simp)
    have hrenew : (if l.holder ≠ some r.sender then s.headTaken.refuse r.sender r.seq (some h) .notHolder
        else if l.state = .ending ∨ l.term = Config.openTerm ∨ sentMove l then
          s.headTaken.refuse r.sender r.seq (some h) .wrongState
        else s.headTaken.extend r h l added) = s.headTaken.extend r h l added :=
      (if_neg (not_not.mpr hmine)).trans (if_neg hok)
    refine ⟨fun hidle => ?waiting, fun st hactive hst hterm => ?active⟩
    case waiting =>
      refine congrArg Host.Outcome.next (hrenew.trans ((extend_of_not_active hidle added).trans ?_))
      exact answer_eq_answered (u := s.headTaken.setLease h.index { l with term := term }) hroom none _
    case active =>
      intro e u
      let l' : Lease := { l with term := term, endFrame := some e }
      let x := s.headTaken.setLease h.index l'
      have hx : x.leaseAt h.index = some l' := leaseAt_setLease_self _ _ _
      have huntil : l'.untilWord x.counter = u := untilWord_eq (l := l') hst rfl _
      have howner : l'.ownerWord x.counter x.settings.d = u := (ownerWord_of_unsent (l := l') _ _ hmove).trans huntil
      have hrenewed : s.headTaken.renewedTerm l.term added = term := renewedTerm_eq _ _ _
      have hextend := extend_of_active (s := s.headTaken) (r := r) (h := h) (added := added) hactive hst
        (by rw [hrenewed]; exact hterm)
      rw [hrenewed] at hextend
      have hanswer : (x.writeUntils h.index).answer none ⟨r.sender, some h, r.seq, .renewed e false⟩ =
          (x.writeUntils h.index).answered none ⟨r.sender, some h, r.seq, .renewed e false⟩ :=
        answer_eq_answered (by rw [writeUntils_eq hx]; exact hroom) _ _
      refine ⟨_, congrArg Host.Outcome.next (hrenew.trans (hextend.trans hanswer)), ?_, fun p y hy => ?_⟩
      · rw [writeUntils_eq hx]
        rfl
      · have hslot : (x.writeUntils h.index).slotAt p = some (y.writeUntil h.index u u) := by
          rw [slotAt_writeUntils hx, huntil, howner]
          exact congrArg (Option.map _) hy
        exact ⟨_, hslot, by rw [Slot.writeUntil_eq], by rw [Slot.writeUntil_eq], by rw [Slot.writeUntil_eq],
          by rw [Slot.writeUntil_eq], by rw [Slot.writeUntil_eq]⟩

/-! ### The compaction step (05, R102, R110) -/

namespace State

variable {s : State}

/-- The first that a search accepts, in a list by place, is the one of lowest place. -/
theorem findSome?_eq_of_lowest {α β : Type} {l : List α} {place : α → Nat} {f : α → Option β} {x : α} {b : β}
    (hsorted : l.Pairwise fun y z => place y ≤ place z) (hx : x ∈ l) (hf : f x = some b)
    (hlow : ∀ y ∈ l, f y ≠ none → y = x ∨ place x < place y) : l.findSome? f = some b := by
  have hsome : (l.findSome? f).isSome = true := List.findSome?_isSome_iff.mpr ⟨x, hx, by rw [hf]; rfl⟩
  obtain ⟨c, hc⟩ := Option.isSome_iff_exists.mp hsome
  obtain ⟨before, y, after, rfl, hy, hbefore⟩ := List.findSome?_eq_some_iff.mp hc
  have hmem : y ∈ before ++ y :: after := List.mem_append_right _ List.mem_cons_self
  rw [hc]
  rcases hlow y hmem (by simp [hy]) with rfl | hlt
  · exact hy.symm.trans hf
  · rcases List.mem_append.mp hx with hxb | hxa
    · exact absurd (hf.symm.trans (hbefore x hxb)) (by simp)
    · rcases List.mem_cons.mp hxa with rfl | hxa
      · exact absurd hlt (Nat.lt_irrefl _)
      · have hle := (List.pairwise_cons.mp (List.pairwise_append.mp hsorted).2.1).1 x hxa
        exact absurd hlt (Nat.not_lt.mpr hle)

/-- How far a run's start comes in the step's order: from the scan point upwards, then below it (05, R110). -/
def scanPlace (scan : Nat) (p : Pos) : Nat := if scan ≤ p.val then p.val else 64 + p.val

theorem start_of_mem_movableAt {p : Pos} {x : LeaseIdx × Lease} (h : x ∈ s.movableAt p) : x.2.start = p :=
  (mem_movableAt.mp h).2.2

/-- The candidates are in the step's order (05, R110). -/
theorem moveOrder_sorted (s : State) :
    s.moveOrder.Pairwise fun x y => scanPlace s.worker.scan x.2.start ≤ scanPlace s.worker.scan y.2.start := by
  have hpositions : allPositions.Pairwise (· < ·) := List.pairwise_lt_finRange 64
  have hpart : ∀ q : Pos → Bool, (∀ p p', q p = true → q p' = true → p < p' →
      scanPlace s.worker.scan p ≤ scanPlace s.worker.scan p') →
      ((allPositions.filter q).flatMap s.movableAt).Pairwise fun x y =>
        scanPlace s.worker.scan x.2.start ≤ scanPlace s.worker.scan y.2.start := by
    intro q hq
    refine List.pairwise_flatMap.mpr ⟨fun p hp => ?_, ?_⟩
    · refine List.pairwise_iff_forall_sublist.mpr fun {x y} hxy => ?_
      have hx : x ∈ s.movableAt p := hxy.subset (by simp)
      have hy : y ∈ s.movableAt p := hxy.subset (by simp)
      rw [start_of_mem_movableAt hx, start_of_mem_movableAt hy]
    · refine List.Pairwise.imp_of_mem (fun {p p'} hp hp' hlt x hx y hy => ?_) (hpositions.filter q)
      rw [start_of_mem_movableAt hx, start_of_mem_movableAt hy]
      exact hq p p' (List.mem_filter.mp hp).2 (List.mem_filter.mp hp').2 hlt
  unfold moveOrder
  refine List.pairwise_append.mpr ⟨hpart _ fun p p' hp hp' hlt => ?_, hpart _ fun p p' hp hp' hlt => ?_, fun x hx y hy => ?_⟩
  · have hlt : p.val < p'.val := hlt
    simp only [scanPlace, of_decide_eq_true hp, of_decide_eq_true hp', if_true]
    omega
  · have hlt : p.val < p'.val := hlt
    simp only [scanPlace, Nat.not_le.mpr (of_decide_eq_true hp), Nat.not_le.mpr (of_decide_eq_true hp'), if_false]
    omega
  · obtain ⟨p, hp, hxp⟩ := List.mem_flatMap.mp hx
    obtain ⟨p', hp', hyp⟩ := List.mem_flatMap.mp hy
    have hfrom := of_decide_eq_true (List.mem_filter.mp hp).2
    have hbelow := of_decide_eq_true (List.mem_filter.mp hp').2
    rw [start_of_mem_movableAt hxp, start_of_mem_movableAt hyp]
    simp only [scanPlace, hfrom, Nat.not_le.mpr hbelow, if_true, if_false]
    omega

/-- The move search gives the lowest free run below the start (02, R42). -/
theorem moveSearch_eq_some {c : LenClass} {start p : Pos} : s.moveSearch c start = some p ↔
    p < start ∧ s.runFree c p = true ∧ ∀ q, q < p → s.runFree c q = false := by
  rw [moveSearch, allPositions, find?_finRange_eq_some, Bool.and_eq_true, decide_eq_true_iff, and_assoc]
  refine and_congr_right fun hp => and_congr_right fun _ => forall_congr' fun q => imp_congr_right fun hq => ?_
  simp [lt_trans hq hp]

theorem movable_iff (l : Lease) : movable l = true ↔ l.state = .active ∧ l.origin ≠ .pin ∧ l.move = none := by
  simp [movable, and_assoc]

/-- The first candidate in the step's order that has a target is moved (05, R110). -/
theorem nextMove_of_first {i : LeaseIdx} {l : Lease} {p : Pos} (hl : s.leaseAt i = some l) (hm : movable l = true)
    (hp : s.moveSearch l.cls l.start = some p)
    (hfirst : ∀ j k q, j ≠ i → s.leaseAt j = some k → movable k = true → s.moveSearch k.cls k.start = some q →
      scanPlace s.worker.scan l.start < scanPlace s.worker.scan k.start) : s.nextMove = some (i, l, p) := by
  unfold nextMove
  refine findSome?_eq_of_lowest (x := (i, l)) (place := fun x => scanPlace s.worker.scan x.2.start) (moveOrder_sorted s)
    (mem_moveOrder.mpr ⟨hl, hm⟩) (by simp [hp]) fun ⟨j, k⟩ hjk htarget => ?_
  obtain ⟨hk, hmk⟩ := mem_moveOrder.mp hjk
  obtain ⟨q, hq⟩ := Option.ne_none_iff_exists'.mp fun hnone : s.moveSearch k.cls k.start = none => htarget (by simp [hnone])
  by_cases hji : j = i
  · subst hji
    exact .inl (by rw [Option.some.inj (hk.symm.trans hl)])
  · exact .inr (hfirst j k q hji hk hmk hq)

/-- With no candidate that has a target there is no next move (05, R110). -/
theorem nextMove_of_none (h : ∀ i l, s.leaseAt i = some l → movable l = true → s.moveSearch l.cls l.start = none) :
    s.nextMove = none := by
  unfold nextMove
  refine List.findSome?_eq_none_iff.mpr fun ⟨i, l⟩ hx => ?_
  obtain ⟨hl, hm⟩ := mem_moveOrder.mp hx
  simp [h i l hl hm]

/-- A move decided, with room for its MOVE (05, R102, R110). -/
theorem compactOnce_moves {i : LeaseIdx} {l : Lease} {p : Pos} {a : Trib} (hnext : s.nextMove = some (i, l, p))
    (ha : l.holder = some a) (hroom : s.notices.length < 16) :
    s.compactOnce = (((((s.setLeases (s.leases.set i { s.leases.get i with
      lease := some { l with move := some ⟨p, none⟩ } })).setSlots (s.writeIncoming i p l.cls).slots).setNotices
        (s.notices ++ [⟨moveNotice l (s.handleOf i) p a, some i, false, false, none, false⟩])).setWorker { s.worker with
          status := .active .wait, underMove := some (s.handleOf i) }).setEngine { s.engine with stepReady := false }) := by
  have hdecide : s.decideMove i l p = (((s.setLease i { l with move := some ⟨p, none⟩ }).writeIncoming i p l.cls).setNotices
      (s.notices ++ [⟨moveNotice l (s.handleOf i) p a, some i, false, false, none, false⟩])) := by
    unfold decideMove
    dsimp only
    split
    · next hnone => exact absurd (hnone.symm.trans ha) (by simp)
    · next b hb =>
      obtain rfl : b = a := Option.some.inj (hb.symm.trans ha)
      exact submit_room ((s.setLease i { l with move := some ⟨p, none⟩ }).writeIncoming i p l.cls) hroom
  rw [compactOnce, hnext]
  simp only [hdecide]
  rfl

/-- COMPACTION_STEP that is handed out (05, R110). -/
theorem exec_compactionStep_of_waits (hh : s.heard) (hw : s.nextWork = some .compaction) :
    exec .compactionStep s = .next (s.served .internal).compactOnce := by
  have h : exec .compactionStep s = execCompactionStep s := rfl
  rw [h, execCompactionStep, hear_of_heard hh]
  simp only [hw]
  rfl

end State

/-- Settles O44: the step moves the first candidate that has a target, or ends the worker. -/
theorem compactionStepDecidesOneMove : Obligations.CompactionStepDecidesOneMove := by
  intro s hh hw candidate target
  have hroom : s.notices.length < 16 := Nat.lt_of_le_of_lt (room_of_compaction hw).1 (by decide)
  rw [exec_compactionStep_of_waits hh hw]
  refine ⟨fun i l p a ⟨hl, hcand⟩ hp ha hfirst => ?move, fun hnone => ?ends⟩
  case move =>
    have hnext : (s.served .internal).nextMove = some (i, l, p) := by
      refine nextMove_of_first (s := s.served .internal) hl ((movable_iff l).mpr hcand) (moveSearch_eq_some.mpr hp)
        fun j k q hj hk hmk hq => ?_
      have hafter := hfirst j k q hj ⟨hk, (movable_iff k).mp hmk⟩ (moveSearch_eq_some.mp hq)
      have hscan : (s.served .internal).worker.scan = s.worker.scan := rfl
      have hlt : l.start < k.start ↔ l.start.val < k.start.val := Iff.rfl
      rw [hlt] at hafter
      unfold scanPlace
      rw [hscan]
      split <;> split <;> omega
    rw [compactOnce_moves hnext ha hroom]
    exact ⟨_, rfl, rfl, slotAt_setSlots_writeIncoming (s := s) rfl⟩
  case ends =>
    have hnext : (s.served .internal).nextMove = none := by
      refine nextMove_of_none fun i l hl hm => Option.eq_none_iff_forall_ne_some.mpr fun p hp => ?_
      exact hnone i l p ⟨hl, (movable_iff l).mp hm⟩ (moveSearch_eq_some.mp hp)
    rw [compactOnce, hnext]
    rfl

/-! ### The reconsideration pass (04, R82, R83) -/

namespace State

variable {s : State}

/-- RECONSIDERATION_PASS that is handed out (04, R82). -/
theorem exec_reconsiderationPass_of_waits (hh : s.heard) (hw : s.nextWork = some .reconsider) :
    exec .reconsiderationPass s = .next (s.served .internal).reconsiderOnce := by
  have h : exec .reconsiderationPass s = execReconsiderationPass s := rfl
  rw [h, execReconsiderationPass, hear_of_heard hh]
  simp only [hw]
  rfl

/-- A wait-until has not come (04, R83; 06, R118). -/
theorem come_eq_false (now f : Frame) : come now f = false ↔ 32768 ≤ (now - f).toNat := by
  simp [come]

/-- The first entry that fits is granted (04, R82). -/
theorem reconsiderOnce_grants {above below : List Deferred} {d : Deferred} {i : LeaseIdx} {start : Pos}
    (hd : s.deferred = above ++ d :: below) (hnone : ∀ x ∈ above, s.fits x = none) (hfits : s.fits d = some (i, start)) :
    s.reconsiderOnce = ((s.setDeferred (above ++ below)).createLease i d.sender .bus start d.cls d.priority d.term
      d.seq).announce i (s.grantNotice i d.sender start d.cls d.term d.seq) := by
  have hfirst : s.firstFit 0 s.deferred = some (above.length, d, i, start) :=
    firstFit_eq_some.mpr ⟨above, below, hd, (Nat.zero_add _).symm, hnone, hfits⟩
  have herase : s.deferred.eraseIdx above.length = above ++ below := by
    rw [hd, List.eraseIdx_append_of_length_le (Nat.le_refl _), Nat.sub_self]
    rfl
  rw [reconsiderOnce, hfirst]
  simp only [herase]

end State

/-- Settles O45: the first entry that fits is granted, and with none the flag is cleared. -/
theorem reconsiderationGrantsFirstFit : Obligations.ReconsiderationGrantsFirstFit := by
  intro s hh hw fit
  have hroom : s.notices.length < 16 := Nat.lt_of_le_of_lt (room_of_reconsider hw) (by decide)
  have hfits : ∀ d i start, (s.served .internal).fits d = some (i, start) ↔ fit d i start := by
    intro d i start
    rw [fits_eq_some, withinQuota_iff, come_eq_false]
    constructor
    · rintro ⟨h1, ⟨h2, h3⟩, h4, h5, h6⟩
      exact ⟨h1, h2, h3, h5, h6, h4⟩
    · rintro ⟨h1, h2, h3, h5, h6, h4⟩
      exact ⟨h1, ⟨h2, h3⟩, h4, h5, h6⟩
  rw [exec_reconsiderationPass_of_waits hh hw]
  refine ⟨fun above d below i start hd hnone hfit => ?grant, fun hnone => ?clear⟩
  case grant =>
    have hgrant := reconsiderOnce_grants (s := s.served .internal) hd (fun x hx => Option.eq_none_iff_forall_ne_some.mpr
      fun ⟨j, p⟩ hjp => hnone x hx j p ((hfits x j p).mp hjp)) ((hfits d i start).mpr hfit)
    intro term
    refine ⟨_, congrArg Host.Outcome.next (hgrant.trans (submit_room _ hroom)), rfl, ?_⟩
    exact slotAt_setSlots_writeIncoming (s := s) rfl
  case clear =>
    have hfirst : (s.served .internal).firstFit 0 (s.served .internal).deferred = none :=
      firstFit_eq_none.mpr fun d hd => Option.eq_none_iff_forall_ne_some.mpr
        fun ⟨j, p⟩ hjp => hnone d hd j p ((hfits d j p).mp hjp)
    rw [reconsiderOnce, hfirst]
    rfl

end Sys2Proof.Machine
end

section
/-!
PROOFS. The commands that make leases, and RESTART (11, R198, R200, R201, R209; 01, R15).
-/
namespace Sys2Proof.Machine

open State

variable {s : State}

/-! ### Replies of commands that wait -/

theorem exec_pin_of_waits (h : s.commandWaits .pin) : exec .pin s = .next (finish (s.takeCommand.pinRun s.cmd.arg0)) :=
  commandRow_of_commandWaits h _

theorem exec_grantTo_of_waits (h : s.commandWaits .grantTo) :
    exec .grantTo s = .next (finish (s.takeCommand.grantToRow s.cmd.arg0 s.cmd.arg1)) :=
  commandRow_of_commandWaits h _

theorem exec_restart_of_waits (h : s.commandWaits .restart) :
    exec .restart s = .next (finish s.takeCommand.restartBus) :=
  commandRow_of_commandWaits h _

/-- A handle as it is shown in RESULT (10, R193). -/
theorem handle_value (i : LeaseIdx) (g : BitVec 3) :
    (Handle.wire ⟨i, g⟩).setWidth 16 = BitVec.ofNat 16 (8 * i.val + g.toNat) := by
  apply BitVec.eq_of_toNat_eq
  have hlow : g.toNat < 2 ^ 3 := g.isLt
  have happend : (BitVec.ofNat 5 i.val ++ g : BitVec 8).toNat = 8 * i.val + g.toNat := by
    rw [BitVec.toNat_append, BitVec.toNat_ofNat, Nat.mod_eq_of_lt (by omega), ← Nat.shiftLeft_add_eq_or_of_lt hlow,
      Nat.shiftLeft_eq, Nat.mul_comm]
  rw [BitVec.toNat_setWidth, Handle.wire, happend, BitVec.toNat_ofNat]

theorem classOf_eq_none {b : BitVec 3} (h : 5 ≤ b.toNat) : classOf b = none := dif_neg (Nat.not_lt.mpr h)

/-- A class field names a class of its own number (03, R60). -/
theorem classOf_eq_some {b : BitVec 3} {c : LenClass} (h : classOf b = some c) : c.val = b.toNat := by
  unfold classOf at h
  split at h
  · exact congrArg Fin.val (Option.some.inj h).symm
  · exact absurd h (by simp)

theorem inRun_iff (start : Pos) (c : LenClass) (p : Nat) :
    inRun start c p = true ↔ start.val ≤ p ∧ p < start.val + 2 ^ c.val := by
  rw [inRun, Bool.and_eq_true, decide_eq_true_iff, decide_eq_true_iff]
  rfl

/-! ### PIN (11, R198) -/

namespace State

variable {a : Word} {c : LenClass}

/-- PIN refuses a class above 4, and a start that is no aligned start of the class within 10-63 (11, R198). -/
theorem pinRun_badArgument (h : 5 ≤ (a.extractLsb' 8 3).toNat ∨
    ∀ c : LenClass, c.val = (a.extractLsb' 8 3).toNat → aligned c (posOf (a.extractLsb' 0 6)).val = false) :
    s.pinRun a = s.turnedAway .badArgument := by
  unfold pinRun
  split
  · rfl
  · next c hc =>
    have hcls := classOf_eq_some hc
    have halign := h.resolve_left (by have := c.isLt; omega) c hcls
    exact if_pos (by simp [halign])

/-- PIN of an aligned start by what its run and the lease table hold (11, R198). -/
theorem pinRun_aligned (hc : c.val = (a.extractLsb' 8 3).toNat)
    (ha : aligned c (posOf (a.extractLsb' 0 6)).val = true) :
    s.pinRun a = if !s.runFree c (posOf (a.extractLsb' 0 6)) then s.turnedAway .occupied
      else match s.freeEntry with
        | none => s.turnedAway .noEntry
        | some i => (s.createPin i (posOf (a.extractLsb' 0 6)) c).okHandle (s.handleOf i) := by
  unfold pinRun
  rw [classOf_eq hc]
  exact if_neg (by simp [ha])

end State

/-- Settles O46: the checks of PIN, and the pin created in the lowest FREE entry. -/
theorem pinReservesItsRun : Obligations.PinReservesItsRun := by
  intro s hw cls start
  rw [exec_pin_of_waits hw]
  refine ⟨fun hbad => ?argument, fun c hc hlow hmod hhigh => ?aligned⟩
  case argument =>
    rw [pinRun_badArgument, finish_turnedAway_takeCommand]
    refine hbad.imp_right fun hbad c hc => ?_
    rw [← Bool.not_eq_true, aligned_iff, hc]
    rintro ⟨hlow, hmod, hhigh⟩
    exact hbad.elim (Nat.not_lt.mpr hlow) fun h => h.elim (absurd hmod) (Nat.not_lt.mpr hhigh)
  case aligned =>
    have halign : aligned c start.val = true := (aligned_iff c start.val).mpr (by rw [hc]; exact ⟨hlow, hmod, hhigh⟩)
    rw [pinRun_aligned (s := s.takeCommand) hc halign]
    refine ⟨fun hbusy => ?_, fun hfree hfull => ?_, fun i hfree hi => ?_⟩
    · rw [if_pos (by rw [show s.takeCommand.runFree c start = false from hbusy]; rfl), finish_turnedAway_takeCommand]
    · rw [if_neg (by rw [show s.takeCommand.runFree c start = true from hfree]; decide),
        show s.takeCommand.freeEntry = none from hfull]
      exact congrArg Host.Outcome.next (finish_turnedAway_takeCommand s .noEntry)
    · rw [if_neg (by rw [show s.takeCommand.runFree c start = true from hfree]; decide),
        show s.takeCommand.freeEntry = some i from hi]
      refine ⟨_, rfl, ?_, fun p => ?_⟩
      · exact congrArg (fun v => (s.createPin i start c).concluded .ok v) (handle_value i _)
      · refine (slotAt_mapSlots s _ p).trans ?_
        simp only [inRun_iff, hc]
        rfl

/-! ### GRANT_TO (11, R200, R201) -/

namespace State

variable {a b : Word} {t : Trib} {c : LenClass}

theorem startNamed_iff (c : LenClass) (w : BitVec 6) : startNamed c w = true ↔
    w = 0 ∨ (10 ≤ w.toNat ∧ w.toNat % 2 ^ c.val = 0 ∧ w.toNat + 2 ^ c.val ≤ 64) := by
  rw [startNamed, Bool.or_eq_true, decide_eq_true_iff, aligned_iff]
  rfl

/-- GRANT_TO refuses an address or a class that names none, a term of 0, and a start that is neither 0 nor aligned (11,
R200). -/
theorem grantToRow_badArgument (h : argAddress a = none ∨ 5 ≤ (a.extractLsb' 16 3).toNat ∨ b.extractLsb' 0 16 = 0 ∨
    ∀ c : LenClass, c.val = (a.extractLsb' 16 3).toNat → startNamed c (a.extractLsb' 8 6) = false) :
    s.grantToRow a b = s.turnedAway .badArgument := by
  unfold grantToRow
  dsimp only
  split
  · next t c ht hc =>
    have hcls := classOf_eq_some hc
    have hrest := (h.resolve_left (by simp [ht])).resolve_left (by have := c.isLt; omega)
    exact if_pos (hrest.imp_right fun h => h c hcls)
  · rfl

/-- Past the argument the entry, the quota, the lease table and the slot map decide in this order (11, R200). -/
theorem grantToRow_named (ht : argAddress a = some t) (hc : c.val = (a.extractLsb' 16 3).toNat)
    (hterm : b.extractLsb' 0 16 ≠ 0) (hstart : startNamed c (a.extractLsb' 8 6) = true) :
    s.grantToRow a b = if (s.entry t).state ≠ .present then s.turnedAway .notPresent
      else if !s.withinQuota t c then s.turnedAway .quota
      else match s.freeEntry with
        | none => s.turnedAway .noEntry
        | some i =>
          match s.grantToRun c (a.extractLsb' 8 6) with
          | none => s.turnedAway .noSpace
          | some start => (s.grantHost i t start c (a.extractLsb' 20 2) (b.extractLsb' 0 16)).okHandle (s.handleOf i) := by
  unfold grantToRow
  simp only [ht, classOf_eq hc]
  refine if_neg ?_
  rw [hstart]
  rintro (h | h)
  · exact hterm h
  · exact absurd h (by decide)

/-- A lease of the host, with room for its GRANT (11, R201). -/
theorem grantHost_room (hroom : s.notices.length < 16) (i : LeaseIdx) (start : Pos) (priority : BitVec 2)
    (term : BitVec 16) : s.grantHost i t start c priority term =
      (s.createLease i t .granted start c priority term false).setNotices
        (s.notices ++ [⟨s.grantNotice i t start c term false, some i, false, false, none, false⟩]) :=
  submit_room (s.createLease i t .granted start c priority term false) hroom

/-- The run of GRANT_TO: the one named where it is free, or the lowest (11, R200 step 5). -/
theorem grantToRun_eq (c : LenClass) (w : BitVec 6) (s : State) : s.grantToRun c w =
    if w = 0 then s.placement c 0 else if s.runFree c (posOf w) then some (posOf w) else none := rfl

end State

/-- Settles O48: the checks of GRANT_TO in their order, and the lease created on the run found. -/
theorem grantToPlacesALease : Obligations.GrantToPlacesALease := by
  intro s hw addr w cls priority asked
  have hroom : s.takeCommand.notices.length < 16 := Nat.lt_of_le_of_lt (room_of_command (s := s) hw.2.1) (by decide)
  rw [exec_grantTo_of_waits hw]
  refine ⟨fun hbad => ?argument, fun a c haddr hc hasked hstart => ?named⟩
  case argument =>
    rw [grantToRow_badArgument, finish_turnedAway_takeCommand]
    rw [argAddress_eq_none_iff, or_assoc]
    refine hbad.imp_right fun h => h.imp_right fun h => h.imp_right fun h => h.imp_right fun ⟨h0, hbad⟩ c hc => ?_
    rw [← Bool.not_eq_true, startNamed_iff, hc]
    rintro (h | ⟨hlow, hmod, hhigh⟩)
    · exact h0 h
    · exact hbad.elim (Nat.not_lt.mpr hlow) fun h => h.elim (absurd hmod) (Nat.not_lt.mpr hhigh)
  case named =>
    have hnamed : startNamed c w = true := (startNamed_iff c w).mpr (by rw [hc]; exact hstart)
    rw [grantToRow_named (s := s.takeCommand) (argAddress_of_wire haddr) hc hasked hnamed, entry_takeCommand]
    intro e fits
    have hquota : s.takeCommand.withinQuota a c = true ↔ fits := by
      rw [withinQuota_iff, hc]
      rfl
    have hrun : ∀ w, s.takeCommand.grantToRun c w = s.grantToRun c w := fun _ => rfl
    have hentry : s.takeCommand.freeEntry = s.freeEntry := rfl
    refine ⟨fun hp => ?_, fun hp hq => ?_, fun hp hq hfull => ?_, fun hp hq hi hrunless => ?_, fun i start hp hq hi hfound => ?_⟩
    · rw [if_pos hp, finish_turnedAway_takeCommand]
    all_goals rw [if_neg (not_not.mpr hp)]
    · rw [← hquota, Bool.not_eq_true] at hq
      rw [hq]
      exact congrArg Host.Outcome.next (finish_turnedAway_takeCommand s .quota)
    all_goals rw [hquota.mpr hq, hentry, hrun]
    · rw [hfull]
      exact congrArg Host.Outcome.next (finish_turnedAway_takeCommand s .noEntry)
    · obtain ⟨i, hi⟩ := Option.ne_none_iff_exists'.mp hi
      have hnone : s.grantToRun c w = none := by
        rw [grantToRun_eq]
        rcases hrunless with ⟨h0, h⟩ | ⟨h0, h⟩
        · rw [if_pos h0, h]
        · rw [if_neg h0, h]
          rfl
      rw [hi, hnone]
      exact congrArg Host.Outcome.next (finish_turnedAway_takeCommand s .noSpace)
    · have hsome : s.grantToRun c w = some start := by
        rw [grantToRun_eq]
        rcases hfound with ⟨h0, h⟩ | ⟨h0, h, hfree⟩
        · rw [if_pos h0, h]
        · rw [if_neg h0, ← h, hfree]
          rfl
      rw [hi, hsome]
      intro term
      refine ⟨_, congrArg (fun x => Host.Outcome.next (finish (x.okHandle (s.takeCommand.handleOf i))))
        (grantHost_room (s := s.takeCommand) hroom i start priority asked), ?_, fun p => ?_⟩
      · rw [← hc, ← handle_value]
        rfl
      · rw [← hc]
        exact slotAt_setSlots_writeIncoming (s := s) rfl p

/-! ### RESTART (11, R209; 01, R24; 02, R48; 07, R151) -/

/-- A position record after RESTART, by what it held (02, R48). -/
theorem restartSlot_eq (pinned : Bool) (x : Slot) (h : x.owner = none → pinned = false) : restartSlot pinned x =
    if pinned then { x with ownerUntil := none, incoming := none }
    else { x with owner := none, ownerUntil := none, incoming := none, guardUntil :=
      if x.owner.isSome ∨ x.guardUntil.isSome then some 1 else none } := by
  unfold restartSlot
  split
  · next i hi => simp [hi]
  · next hi =>
    rw [h hi]
    cases hg : x.guardUntil with
    | none => simp [hi]
    | some g => simp [hi]

theorem ownedByPin_eq (s : State) (x : Slot) : s.ownedByPin x =
    x.owner.any fun i => (s.leaseAt i).any fun l => decide (l.origin = .pin) := by
  unfold ownedByPin
  split
  · next i hi =>
    rw [hi, Option.any_some]
    unfold isPin
    split
    · next l hl => rw [hl, Option.any_some]
    · next hl => rw [hl, Option.any_none]
  · next hi => rw [hi, Option.any_none]

/-- The reply of RESTART: the records and queues restarted, the worker OFF, and CMD_DONE raised, with COMPACT_END where the
worker was not OFF (05, R108). -/
theorem finish_restartBus (s : State) : finish s.takeCommand.restartBus =
    (((s.takeCommand.restartRecords.restartQueues).setWorker { s.worker with status := .off, underMove := none }).setAttention
      (if s.worker.status = .off then s.attention ||| 0x001 else s.attention ||| 0x021)).setCmd (s.concluded .ok 0).cmd := by
  have hworker : s.takeCommand.restartRecords.restartQueues.restartWorker =
      ((s.takeCommand.restartRecords.restartQueues).setWorker { s.worker with status := .off, underMove := none }).setAttention
        (if decide (s.worker.status ≠ .off) then s.attention ||| 0x020 else s.attention) := raiseIf_form _ _ _
  rw [restartBus, hworker]
  by_cases h : s.worker.status = .off
  · rw [if_pos h, if_neg (by simp [h])]
    rfl
  · rw [if_neg h, if_pos (by simp [h])]
    exact congrArg (fun m => State.setCmd (State.setAttention _ m) _) (BitVec.or_assoc _ _ _)

/-- Settles O53: each part of RESTART. -/
theorem restartKeepsWhatTheHostSetUp : Obligations.RestartKeepsWhatTheHostSetUp := by
  intro s hw
  rw [exec_restart_of_waits hw, finish_restartBus]
  refine ⟨_, rfl, ?fg, fun i => ?leases, fun p => ?slots, ?requests, ?deferred, ?notices, ?served,
    fun a => ?flags, ?ready, ?reconsider, ?worker, ?attention, fun a => ?entries, ?pointer, ?uplink,
    fun i => ?credited, ?rest⟩
  case leases =>
    refine (Table.get_mapFrom _ _ _ _).trans ?_
    rfl
  case slots =>
    refine (slotAt_restartRecords s.takeCommand p).trans (congrArg (fun f => (s.slotAt p).map f) (funext fun x => ?_))
    rw [restartSlot_eq _ _ (fun h => by rw [ownedByPin, h]), ownedByPin_eq]
    rfl
  case entries =>
    refine (Table.get_mapFrom _ _ _ _).trans ?_
    rfl
  case flags | credited =>
    exact Table.get_replicate _ _
  case rest => exact ⟨rfl, rfl, rfl, rfl, rfl, rfl⟩
  all_goals rfl

end Sys2Proof.Machine
end

section
/-!
PROOFS. Retirement in the form that the statements give it (01, R22), and the removal of an UNSENT move (05, R96): UNPIN,
RELEASE, REVOKE and the reclaims.
-/
namespace Sys2Proof.Machine

open State

variable {s : State}

/-- A table is what its entries are. -/
theorem table_ext {α : Type} {n : Nat} {t u : Table α n} (h : ∀ i, t.get i = u.get i) : t = u := by
  refine Table.ext_cells (List.ext_getElem (t.size.trans u.size.symm) fun k hk _ => ?_)
  exact h ⟨k, t.size ▸ hk⟩

/-- A table that differs at one entry at most is the table with that entry replaced. -/
theorem table_eq_set {α : Type} {n : Nat} {t u : Table α n} {i : Fin n} {x : α} (hi : u.get i = x)
    (h : ∀ j, j ≠ i → u.get j = t.get j) : u = t.set i x := by
  refine table_ext fun j => ?_
  by_cases hj : j = i
  · rw [hj, Table.get_set_eq, hi]
  · rw [Table.get_set_ne _ _ hj, h j hj]

namespace State

variable {i : LeaseIdx} {l : Lease} {r : EndReason}

theorem handleOf_index {h : Handle} (hg : (s.leases.get h.index).generation = h.generation) : s.handleOf h.index = h :=
  congrArg (Handle.mk h.index) hg

/-! ### Retirement (01, R22) -/

/-- A retirement brings the worker to STEP past the old start where the lease's move was under way (05, R112). -/
theorem worker_retire_underMove (hl : s.leaseAt i = some l) (hu : s.worker.underMove = some (s.handleOf i)) :
    (s.retire i r).worker = { s.worker with status := .active .step, scan := l.start.val + 1, underMove := none } ∧
      (s.retire i r).engine.stepReady = true := by
  rw [worker_retire s hl, engine_retire s hl, if_pos hu]
  exact ⟨rfl, if_pos hu⟩

theorem worker_retire_other (hl : s.leaseAt i = some l) (hu : s.worker.underMove ≠ some (s.handleOf i)) :
    (s.retire i r).worker = s.worker ∧ (s.retire i r).engine.stepReady = s.engine.stepReady := by
  rw [worker_retire s hl, engine_retire s hl, if_neg hu]
  exact ⟨rfl, if_neg hu⟩

/-- Of the engine a retirement changes the flags alone (01, R22; 05, R112). -/
theorem engine_retire_flags (hl : s.leaseAt i = some l) : (s.retire i r).engine =
    { s.engine with reconsider := true, stepReady := (s.retire i r).engine.stepReady } := by
  rw [engine_retire s hl]

/-- The roster after a retirement: the holder's counts fall, and where its reply copy is the lease's GRANT the copy and the
sequence bit go (07, R134, R149). -/
theorem roster_retire (hl : s.leaseAt i = some l) {a : Trib} (ha : l.holder = some a) :
    let e : RosterEntry := { s.entry a with
      slotsHeld := (s.entry a).slotsHeld - 2 ^ l.cls.val, leasesHeld := (s.entry a).leasesHeld - 1 }
    let forgets := l.origin = .bus ∧ ∃ c, e.reply = some c ∧ c.notice.isGrant = true ∧
      c.notice.handle = some (s.handleOf i)
    (forgets → (s.retire i r).roster = s.roster.set a { e with reply := none, lastSeq := none }) ∧
      (¬ forgets → (s.retire i r).roster = s.roster.set a e) := by
  intro e forgets
  have hforgets : (l.origin = .bus ∧ (e.reply.any fun c => c.notice.isGrant &&
      decide (c.notice.handle = some (s.handleOf i))) = true) ↔ forgets := by
    refine and_congr_right fun _ => ?_
    rw [Option.any_eq_true]
    refine exists_congr fun c => and_congr_right fun _ => ?_
    rw [Bool.and_eq_true, decide_eq_true_iff]
  have hother : ∀ b, b ≠ a → (s.retire i r).roster.get b = s.roster.get b := fun b hb =>
    entry_retire_other s hl (by rw [ha]; exact fun h => hb (Option.some.inj h).symm)
  have hholder := entry_retire_holder s hl ha (r := r)
  exact ⟨fun h => table_eq_set (hholder.trans (if_pos (hforgets.mpr h))) hother,
    fun h => table_eq_set (hholder.trans (if_neg (mt hforgets.mp h))) hother⟩

/-- The retirement of a pin leaves the roster as it is. -/
theorem roster_retire_pin (hl : s.leaseAt i = some l) (hp : l.holder = none) : (s.retire i r).roster = s.roster :=
  table_ext fun b => entry_retire_other s hl (by simp [hp])

/-- The records that neither a retirement nor the removal of a move writes. -/
structure Untouched (s u : State) : Prop where
  fg : u.fg = s.fg
  requests : u.requests = s.requests
  deferred : u.deferred = s.deferred
  turnPointer : u.turnPointer = s.turnPointer
  uplink : u.uplink = s.uplink
  credited : u.credited = s.credited
  attention : u.attention = s.attention
  attnEn : u.attnEn = s.attnEn
  settings : u.settings = s.settings
  port : u.port = s.port
  cmd : u.cmd = s.cmd
  due : u.due = s.due
  pending : u.pending = s.pending

/-- What the statements say of a worker, where the lease of `h` with old start `p` lost its move or its entry (05, R112). -/
structure Overtaken (h : Handle) (p : Pos) (s u : State) : Prop where
  underMove : s.worker.underMove = some h →
    u.worker = { s.worker with status := .active .step, scan := p.val + 1, underMove := none } ∧ u.engine.stepReady = true
  other : s.worker.underMove ≠ some h → u.worker = s.worker ∧ u.engine.stepReady = s.engine.stepReady

/-- What a retirement of lease `l` in entry `i`, whose handle is `h`, makes of every record (01, R22). -/
structure Retired (i : LeaseIdx) (h : Handle) (l : Lease) (r : EndReason) (s u : State) : Prop where
  leases : u.leases = s.leases.set i ⟨h.generation + 1, some r, none⟩
  notices : u.notices = s.notices.filter fun q => decide (q.notice.handle ≠ some h)
  slotAt : ∀ p, u.slotAt p = (s.slotAt p).map fun x =>
    let y : Slot := if x.owner = some i
      then { x with owner := none, ownerUntil := none, guardUntil := some (s.counter + 2) } else x
    if x.incoming.map Incoming.lease = some i then { y with incoming := none } else y
  holder : ∀ a, l.holder = some a →
    let e : RosterEntry := { s.entry a with
      slotsHeld := (s.entry a).slotsHeld - 2 ^ l.cls.val, leasesHeld := (s.entry a).leasesHeld - 1 }
    let forgets := l.origin = .bus ∧ ∃ c, e.reply = some c ∧ c.notice.isGrant = true ∧ c.notice.handle = some h
    (forgets → u.roster = s.roster.set a { e with reply := none, lastSeq := none }) ∧
      (¬ forgets → u.roster = s.roster.set a e)
  pin : l.holder = none → u.roster = s.roster
  engine : u.engine = { s.engine with reconsider := true, stepReady := u.engine.stepReady }
  overtaken : Overtaken h l.start s u
  untouched : Untouched s u

theorem untouched_retire : Untouched s (s.retire i r) :=
  ⟨fg_retire .., requests_retire .., deferred_retire .., turnPointer_retire .., uplink_retire .., credited_retire ..,
    attention_retire .., attnEn_retire .., settings_retire .., port_retire .., cmd_retire .., due_retire ..,
    pending_retire ..⟩

theorem retired_retire {h : Handle} (hl : s.leaseAt i = some l) (hh : s.handleOf i = h) :
    Retired i h l r s (s.retire i r) := by
  subst hh
  exact ⟨leases_retire s hl, notices_retire s hl, slotAt_retire s hl, fun a => roster_retire hl, roster_retire_pin hl,
    engine_retire_flags hl, ⟨worker_retire_underMove hl, worker_retire_other hl⟩, untouched_retire⟩

/-! ### An end decided for a lease with an UNSENT move (01, R18; 05, R96, R107) -/

theorem leaseAt_removeMove (hl : s.leaseAt i = some l) : (s.removeMove i).leaseAt i = some { l with move := none } := by
  unfold leaseAt
  rw [leases_removeMove hl, Table.get_set_eq]

/-- The end decided for a lease with an UNSENT move removes the move first (05, R96). -/
theorem decideEnd_of_unsent {p : Pos} (hl : s.leaseAt i = some l) (hm : l.move = some ⟨p, none⟩) : s.decideEnd i r =
    (s.removeMove i).setLeases (s.leases.set i { s.leases.get i with
      lease := some { l with state := .ending, endReason := some r, move := none } }) := by
  have hu : s.hasUnsentMove i = true := by
    unfold hasUnsentMove
    simp only [hl, hm, Option.isNone_none]
  unfold decideEnd
  rw [hu, if_pos rfl]
  simp only [leaseAt_removeMove hl, setLease, leases_removeMove hl, Table.get_set_eq, table_set_set]

theorem worker_removeMove_underMove (hl : s.leaseAt i = some l) (hu : s.worker.underMove = some (s.handleOf i)) :
    (s.removeMove i).worker = { s.worker with status := .active .step, scan := l.start.val + 1, underMove := none } ∧
      (s.removeMove i).engine.stepReady = true := by
  rw [worker_removeMove hl, engine_removeMove hl, if_pos hu]
  exact ⟨rfl, if_pos hu⟩

theorem worker_removeMove_other (hl : s.leaseAt i = some l) (hu : s.worker.underMove ≠ some (s.handleOf i)) :
    (s.removeMove i).worker = s.worker ∧ (s.removeMove i).engine.stepReady = s.engine.stepReady := by
  rw [worker_removeMove hl, engine_removeMove hl, if_neg hu]
  exact ⟨rfl, if_neg hu⟩

/-- Of the engine the removal of a move changes the flags alone. -/
theorem engine_removeMove_flags (hl : s.leaseAt i = some l) : (s.removeMove i).engine = { s.engine with
    reconsider := (s.removeMove i).engine.reconsider, stepReady := (s.removeMove i).engine.stepReady } := by
  rw [engine_removeMove hl]

/-- The removal of a move sets deferred-reconsider exactly where a target position became FREE (02, R38, R39). -/
theorem reconsider_removeMove (hl : s.leaseAt i = some l) :
    (s.removeMove i).engine.reconsider = true ↔ s.engine.reconsider = true ∨ ∃ p x y,
      s.slotAt p = some x ∧ (s.removeMove i).slotAt p = some y ∧ x.isFree = false ∧ y.isFree = true := by
  have hslot : ∀ p, (s.removeMove i).slotAt p = (s.removeIncoming i).slotAt p := fun p =>
    (slotAt_removeMove hl p).trans (slotAt_removeIncoming s i p).symm
  simp only [engine_removeMove hl, hslot]
  exact reconsider_removeIncoming s i

/-- What the end decided for lease `l` in entry `i`, whose handle is `h`, makes of every record where its move was UNSENT
(05, R96, R107). -/
structure EndedUnmoved (i : LeaseIdx) (h : Handle) (l : Lease) (r : EndReason) (s u : State) : Prop where
  leases : u.leases = s.leases.set i { s.leases.get i with
    lease := some { l with state := .ending, endReason := some r, move := none } }
  notices : u.notices = s.notices.filter fun q => !(decide (q.link = some i) && q.notice.isMove)
  slotAt : ∀ p, u.slotAt p = (s.slotAt p).map fun x =>
    if x.incoming.map Incoming.lease = some i then { x with incoming := none } else x
  roster : u.roster = s.roster
  engine : u.engine = { s.engine with reconsider := u.engine.reconsider, stepReady := u.engine.stepReady }
  reconsider : u.engine.reconsider = true ↔ s.engine.reconsider = true ∨ ∃ p x y, s.slotAt p = some x ∧
    u.slotAt p = some y ∧ x.isFree = false ∧ y.isFree = true
  overtaken : Overtaken h l.start s u
  untouched : Untouched s u

theorem untouched_decideEnd : Untouched s (s.decideEnd i r) :=
  ⟨fg_decideEnd .., requests_decideEnd .., deferred_decideEnd .., turnPointer_decideEnd .., uplink_decideEnd ..,
    credited_decideEnd .., attention_decideEnd .., attnEn_decideEnd .., settings_decideEnd .., port_decideEnd ..,
    cmd_decideEnd .., due_decideEnd .., pending_decideEnd ..⟩

theorem endedUnmoved_decideEnd {h : Handle} {p : Pos} (hl : s.leaseAt i = some l) (hm : l.move = some ⟨p, none⟩)
    (hh : s.handleOf i = h) : EndedUnmoved i h l r s (s.decideEnd i r) := by
  subst hh
  have huntouched := untouched_decideEnd (s := s) (i := i) (r := r)
  have hroster := roster_decideEnd s i r
  rw [decideEnd_of_unsent hl hm] at huntouched hroster ⊢
  exact ⟨rfl, notices_removeMove hl, slotAt_removeMove hl, hroster, engine_removeMove_flags hl, reconsider_removeMove hl,
    ⟨worker_removeMove_underMove hl, worker_removeMove_other hl⟩, huntouched⟩

/-- The end decided leaves room where there was room. -/
theorem EndedUnmoved.room {h : Handle} {u : State} (hu : EndedUnmoved i h l r s u) (hroom : s.notices.length < 16) :
    u.notices.length < 16 := by
  rw [hu.notices]
  exact Nat.lt_of_le_of_lt (List.length_filter_le ..) hroom

theorem Retired.room {h : Handle} {u : State} (hu : Retired i h l r s u) (hroom : s.notices.length < 16) :
    u.notices.length < 16 := by
  rw [hu.notices]
  exact Nat.lt_of_le_of_lt (List.length_filter_le ..) hroom

/-- A decided end with room for its REVOKED (05, R97). -/
theorem endWithRevoked_eq {b : Trib} (hb : l.holder = some b) (hroom : (s.decideEnd i r).notices.length < 16) :
    s.endWithRevoked i l r = (s.decideEnd i r).setNotices ((s.decideEnd i r).notices ++
      [⟨revokedNotice l (s.handleOf i) r b, some i, false, false, none, false⟩]) := by
  unfold endWithRevoked
  dsimp only
  split
  · next hnone => exact absurd (hb.symm.trans hnone) (by simp)
  · next t' ht' =>
    obtain rfl : b = t' := Option.some.inj (hb.symm.trans ht')
    exact submit_room _ hroom

end State

/-! ### UNPIN (11, R199) -/

theorem exec_unpin_of_waits (h : s.commandWaits .unpin) :
    exec .unpin s = .next (finish (s.takeCommand.unpinRun s.cmd.arg0)) := commandRow_of_commandWaits h _

/-- The command unit after a command answered OK that wrote nothing of it (10, R192). -/
theorem cmd_finish_ok {u : State} (h : u.cmd = s.takeCommand.cmd) : (finish u.ok).cmd = (s.concluded .ok 0).cmd :=
  congrArg (fun c : CommandUnit => { c with state := .done, result := ⟨c.code, .ok, 0⟩ }) h

/-- Settles O47: the checks of UNPIN, and the retirement of the pin. -/
theorem unpinFreesItsRun : Obligations.UnpinFreesItsRun := by
  intro s hw h
  refine ⟨fun hstale => ?stale, fun l hl hg => ⟨fun hother => ?wrong, fun hpin hnone => ?unpinned⟩⟩
  case stale =>
    rw [exec_unpin_of_waits hw, unpinRun, show s.takeCommand.resolve (argHandle s.cmd.arg0) = none from resolve_eq_none hstale]
    rfl
  all_goals have hres : s.takeCommand.resolve (argHandle s.cmd.arg0) = some l := resolve_eq_some.mpr ⟨hg, hl⟩
  case wrong =>
    rw [exec_unpin_of_waits hw, unpinRun, hres]
    exact congrArg (fun x => Host.Outcome.next (finish x)) (if_pos hother)
  case unpinned =>
    have hexec : exec .unpin s = .next (finish (s.takeCommand.retire h.index .hostRevoke).ok) := by
      rw [exec_unpin_of_waits hw, unpinRun, hres]
      exact congrArg (fun x => Host.Outcome.next (finish x)) (if_neg (not_not.mpr hpin))
    have hu : Retired h.index h l .hostRevoke s.takeCommand (s.takeCommand.retire h.index .hostRevoke) :=
      retired_retire hl (handleOf_index hg)
    rw [hexec]
    generalize s.takeCommand.retire h.index .hostRevoke = u at hu
    have hserved : u.engine.lastServed = .management := by rw [hu.engine]; rfl
    obtain ⟨hfg, hrequests, hdeferred, hpointer, huplink, hcredited, hattention, hattnEn, hsettings, hport, hcmd, hdue,
      hpending⟩ := hu.untouched
    refine ⟨_, rfl, ext_fields hfg rfl hu.leases ?engine hrequests hdeferred rfl (hu.pin hnone) hpointer huplink hu.notices
      hcredited (congrArg (· ||| 0x001) hattention) hattnEn hsettings hport (cmd_finish_ok hcmd) hdue hpending, hu.engine,
      hu.overtaken.underMove, hu.overtaken.other, hu.slotAt⟩
    case engine =>
      change u.engine = { u.engine with lastServed := .management }
      rw [← hserved]

/-! ### REVOKE (05, R97; 11, R202) -/

theorem exec_revoke_of_waits (h : s.commandWaits .revoke) :
    exec .revoke s = .next (finish (s.takeCommand.revokeLease s.cmd.arg0)) := commandRow_of_commandWaits h _

/-- REVOKE of a lease that is no pin, by its state (05, R97). -/
theorem revokeLease_of_resolve {a : Word} {l : Lease} (hr : s.resolve (argHandle a) = some l) (hp : l.origin ≠ .pin) :
    s.revokeLease a = match l.state with
      | .ending => s.turnedAway .wrongState
      | .announcing => (s.retire (argHandle a).index .hostRevoke).ok
      | .pending => (s.endWithRevoked (argHandle a).index l .hostRevoke).ok
      | .active => (s.endWithRevoked (argHandle a).index l .hostRevoke).ok := by
  unfold revokeLease
  dsimp only
  rw [hr]
  exact if_neg hp

theorem revokeLease_of_pending_or_active {a : Word} {l : Lease} (hr : s.resolve (argHandle a) = some l)
    (hp : l.origin ≠ .pin) (hs : l.state = .pending ∨ l.state = .active) :
    s.revokeLease a = (s.endWithRevoked (argHandle a).index l .hostRevoke).ok := by
  rw [revokeLease_of_resolve hr hp]
  rcases hs with hs | hs
  · rw [hs]
  · rw [hs]

/-- Settles O49: the checks of REVOKE, and the end of the lease by its state. -/
theorem revokeEndsTheLease : Obligations.RevokeEndsTheLease := by
  intro s hw h
  have hroom : s.takeCommand.notices.length < 16 := Nat.lt_of_le_of_lt (room_of_command (s := s) hw.2.1) (by decide)
  rw [exec_revoke_of_waits hw]
  refine ⟨fun hstale => ?stale, fun l hl hg => ⟨fun hbad => ?wrong, fun a hpin ha hstate => ?announcing,
    fun a hpin ha hstate => ⟨fun hmove => ?unmoved, fun target hmove => ?unsent⟩⟩⟩
  case stale =>
    rw [revokeLease, show s.takeCommand.resolve (argHandle s.cmd.arg0) = none from resolve_eq_none hstale]
    rfl
  all_goals
    have hres : s.takeCommand.resolve (argHandle s.cmd.arg0) = some l := resolve_eq_some.mpr ⟨hg, hl⟩
    have hhandle : s.takeCommand.handleOf h.index = h := handleOf_index hg
  case wrong =>
    by_cases hp : l.origin = .pin
    · rw [revokeLease, hres]
      exact congrArg (fun x => Host.Outcome.next (finish x)) (if_pos hp)
    · rw [revokeLease_of_resolve hres hp, hbad.resolve_left hp]
      rfl
  case announcing =>
    have hexec : s.takeCommand.revokeLease s.cmd.arg0 = (s.takeCommand.retire h.index .hostRevoke).ok := by
      rw [revokeLease_of_resolve hres hpin, hstate]
      rfl
    have hu : Retired h.index h l .hostRevoke s.takeCommand (s.takeCommand.retire h.index .hostRevoke) :=
      retired_retire hl hhandle
    rw [hexec]
    generalize s.takeCommand.retire h.index .hostRevoke = u at hu
    obtain ⟨hfg, hrequests, hdeferred, hpointer, huplink, hcredited, hattention, hattnEn, hsettings, hport, hcmd, hdue,
      hpending⟩ := hu.untouched
    exact ⟨_, rfl, hu.leases, hu.notices, hu.slotAt, hu.holder a ha, hu.engine, hu.overtaken.underMove, hu.overtaken.other,
      hrequests, hdeferred, congrArg (· ||| 0x001) hattention, cmd_finish_ok hcmd, hfg, hpointer, huplink, hcredited,
      hattnEn, hsettings, hport, hdue⟩
  case unmoved =>
    have hend := endWithRevoked_room (s := s.takeCommand) hl ha hmove hroom .hostRevoke
    rw [hhandle] at hend
    have hexec : s.takeCommand.revokeLease s.cmd.arg0 = _ :=
      (revokeLease_of_pending_or_active hres hpin hstate).trans (congrArg State.ok hend)
    rw [hexec]
    rfl
  case unsent =>
    have hu : EndedUnmoved h.index h l .hostRevoke s.takeCommand (s.takeCommand.decideEnd h.index .hostRevoke) :=
      endedUnmoved_decideEnd hl hmove hhandle
    have hend := endWithRevoked_eq ha (hu.room hroom)
    rw [hhandle] at hend
    have hexec : s.takeCommand.revokeLease s.cmd.arg0 = _ :=
      (revokeLease_of_pending_or_active hres hpin hstate).trans (congrArg State.ok hend)
    rw [hexec]
    generalize s.takeCommand.decideEnd h.index .hostRevoke = u at hu
    obtain ⟨hfg, hrequests, hdeferred, hpointer, huplink, hcredited, hattention, hattnEn, hsettings, hport, hcmd, hdue,
      hpending⟩ := hu.untouched
    exact ⟨_, rfl, hu.leases, congrArg (· ++ [(⟨revokedNotice l h .hostRevoke a, some h.index, false, false, none,
      false⟩ : QueuedNotice)]) hu.notices, hu.slotAt, hu.overtaken.underMove, hu.overtaken.other, hu.engine, hu.reconsider,
      hu.roster, hrequests, hdeferred, congrArg (· ||| 0x001) hattention,
      cmd_finish_ok (u := State.setNotices u _) hcmd, hfg, hpointer, huplink, hcredited, hattnEn, hsettings, hport, hdue⟩

/-! ### RELEASE (05, R94) -/

/-- RELEASE by the holder, by the state of the lease (05, R94). -/
theorem releaseLease_of_resolve {r : Request} {h : Handle} {l : Lease} (hr : s.resolve h = some l)
    (hmine : l.holder = some r.sender) : s.releaseLease r h = match l.state with
      | .ending => s.refuse r.sender r.seq (some h) .wrongState
      | .announcing => (s.retire h.index .holderRelease).answer none ⟨r.sender, some h, r.seq, .released 0 .holderRelease⟩
      | .pending => (s.decideEnd h.index .holderRelease).answer (some h.index)
        ⟨r.sender, some h, r.seq, .released 0 .holderRelease⟩
      | .active => (s.decideEnd h.index .holderRelease).answer (some h.index)
        ⟨r.sender, some h, r.seq, .released 0 .holderRelease⟩ := by
  unfold releaseLease
  rw [hr]
  exact if_neg (not_not.mpr hmine)

theorem releaseLease_of_pending_or_active {r : Request} {h : Handle} {l : Lease} (hr : s.resolve h = some l)
    (hmine : l.holder = some r.sender) (hs : l.state = .pending ∨ l.state = .active) :
    s.releaseLease r h = (s.decideEnd h.index .holderRelease).answer (some h.index)
      ⟨r.sender, some h, r.seq, .released 0 .holderRelease⟩ := by
  rw [releaseLease_of_resolve hr hmine]
  rcases hs with hs | hs
  · rw [hs]
  · rw [hs]

/-- The reply copy kept in an entry already replaced (07, R147). -/
theorem roster_answered {u : State} {k : Option LeaseIdx} {n : Notice} {v : Table RosterEntry 30} {e : RosterEntry}
    (h : u.roster = v.set n.address e) :
    (u.answered k n).roster = v.set n.address { e with reply := some ⟨n, none, false⟩ } := by
  refine (congrArg (fun w : Table RosterEntry 30 => w.set n.address { w.get n.address with reply := some ⟨n, none, false⟩ })
    h).trans ?_
  simp only [Table.get_set_eq, table_set_set]

/-- Settles O42: the checks of RELEASE, and the end of the lease by its state. -/
theorem releaseEndsTheLease : Obligations.ReleaseEndsTheLease := by
  intro s r h hw hm no n
  have hroom := room_headTaken hw
  have hno : ∀ why, s.headTaken.refuse r.sender r.seq (some h) why = no why := refuse_headTaken hw (some h)
  rw [exec_release_of_waits hw hm]
  refine ⟨fun hstale => ?stale, fun l hl hg => ⟨fun hother => ?other, fun hmine hstate => ?wrong,
    fun hmine hstate => ?announcing, fun hmine hstate hmove => ?unmoved, fun target hmine hstate hmove => ?unsent⟩⟩
  case stale =>
    rw [releaseLease, resolve_eq_none (s := s.headTaken) hstale]
    exact congrArg Host.Outcome.next (hno .badHandle)
  all_goals
    have hres : s.headTaken.resolve h = some l := resolve_eq_some.mpr ⟨hg, hl⟩
    have hl' : s.headTaken.leaseAt h.index = some l := hl
    have hhandle : s.headTaken.handleOf h.index = h := handleOf_index hg
  case other =>
    rw [releaseLease, hres]
    exact congrArg Host.Outcome.next ((if_pos hother).trans (hno .notHolder))
  case wrong =>
    rw [releaseLease_of_resolve hres hmine, hstate]
    exact congrArg Host.Outcome.next (hno .wrongState)
  case announcing =>
    have hu : Retired h.index h l .holderRelease s.headTaken (s.headTaken.retire h.index .holderRelease) :=
      retired_retire hl hhandle
    rw [releaseLease_of_resolve hres hmine, hstate, answer_eq_answered (hu.room hroom)]
    generalize s.headTaken.retire h.index .holderRelease = u at hu
    have hholder := hu.holder r.sender hmine
    obtain ⟨hfg, hrequests, hdeferred, hpointer, huplink, hcredited, hattention, hattnEn, hsettings, hport, hcmd, hdue,
      hpending⟩ := hu.untouched
    exact ⟨_, rfl, hu.leases, congrArg (· ++ [(⟨n, none, true, false, none, false⟩ : QueuedNotice)]) hu.notices, hu.slotAt,
      ⟨fun hf => roster_answered (n := n) (hholder.1 hf), fun hf => roster_answered (n := n) (hholder.2 hf)⟩, hu.engine,
      hu.overtaken.underMove, hu.overtaken.other, hrequests, hdeferred, hattention, hfg, hpointer, huplink, hcredited,
      hattnEn, hsettings, hport, hcmd, hdue⟩
  case unmoved =>
    rw [releaseLease_of_pending_or_active hres hmine hstate, decideEnd_of_unmoved hl' hmove]
    exact congrArg Host.Outcome.next (answer_eq_answered (u := s.headTaken.setLease h.index { l with
      state := .ending, endReason := some .holderRelease }) hroom (some h.index) n)
  case unsent =>
    have hu : EndedUnmoved h.index h l .holderRelease s.headTaken (s.headTaken.decideEnd h.index .holderRelease) :=
      endedUnmoved_decideEnd hl hmove hhandle
    rw [releaseLease_of_pending_or_active hres hmine hstate, answer_eq_answered (hu.room hroom)]
    generalize s.headTaken.decideEnd h.index .holderRelease = u at hu
    obtain ⟨hfg, hrequests, hdeferred, hpointer, huplink, hcredited, hattention, hattnEn, hsettings, hport, hcmd, hdue,
      hpending⟩ := hu.untouched
    exact ⟨_, rfl, hu.leases, congrArg (· ++ [(⟨n, some h.index, true, false, none, false⟩ : QueuedNotice)]) hu.notices,
      hu.slotAt, hu.overtaken.underMove, hu.overtaken.other, hu.engine, hu.reconsider,
      congrArg (fun R : Table RosterEntry 30 => R.set r.sender { R.get r.sender with reply := some ⟨n, none, false⟩ })
        hu.roster, hrequests, hdeferred, hattention, hfg, hpointer, huplink, hcredited, hattnEn, hsettings, hport, hcmd,
      hdue⟩

end Sys2Proof.Machine
end

section
/-!
PROOFS. The reclaims of a verdict (05, R100; 09, R180).
-/
namespace Sys2Proof.Machine

open State

variable {s : State}

namespace State

/-! ### What a reclaim does is the same whatever else is due -/

variable (s) (d : Due)

theorem dropHeld_setDue (l : Lease) : (s.setDue d).dropHeld l = (s.dropHeld l).setDue d := by
  unfold dropHeld
  split
  · rfl
  · rfl

theorem vacateAtOnce_setDue (i : LeaseIdx) : (s.setDue d).vacateAtOnce i = (s.vacateAtOnce i).setDue d := by
  unfold vacateAtOnce
  rw [noteSpaceFreed_form, noteSpaceFreed_form]
  rfl

theorem overtake_setDue (h : Handle) (p : Pos) : (s.setDue d).overtake h p = (s.overtake h p).setDue d := by
  rw [overtake_form, overtake_form]
  rfl

theorem forgetGrantCopy_setDue (l : Lease) (h : Handle) :
    (s.setDue d).forgetGrantCopy l h = (s.forgetGrantCopy l h).setDue d := by
  unfold forgetGrantCopy
  cases ht : l.holder with
  | none => rfl
  | some t =>
    have hentry : (s.setDue d).entry t = s.entry t := rfl
    cases hc : (s.entry t).reply with
    | none => simp only [hentry, hc]
    | some c =>
      simp only [hentry, hc]
      split
      · rfl
      · rfl

theorem withdrawHandle_setDue (h : Handle) : (s.setDue d).withdrawHandle h = (s.withdrawHandle h).setDue d := rfl

theorem retire_setDue (i : LeaseIdx) (r : EndReason) : (s.setDue d).retire i r = (s.retire i r).setDue d := by
  cases hl : s.leaseAt i with
  | none => rw [retire_none s r hl, retire_none (s.setDue d) r hl]
  | some l =>
    unfold retire
    simp only [hl, show (s.setDue d).leaseAt i = some l from hl, dropHeld_setDue, vacateAtOnce_setDue,
      show (s.setDue d).handleOf i = s.handleOf i from rfl, overtake_setDue]
    rw [withdrawHandle_setDue, forgetGrantCopy_setDue]
    rfl

theorem reclaim_setDue (i : LeaseIdx) (r : EndReason) : (s.setDue d).reclaim i r = (s.reclaim i r).setDue d := by
  unfold reclaim
  cases hl : s.leaseAt i with
  | none => simp only [show (s.setDue d).leaseAt i = none from hl]
  | some l =>
    simp only [show (s.setDue d).leaseAt i = some l from hl, retire_setDue]
    unfold tellHolder
    split
    · rfl
    · refine (submit_form _ _).trans ?_
      rw [inform, submit_form]
      rfl

variable {s}

/-! ### The outstanding reclaims of a reason (09, R180) -/

theorem reclaimsThrough_none {r : EndReason} {xs : List (LeaseIdx × EndReason)} (h : ∀ x ∈ xs, x.2 ≠ r) :
    reclaimsThrough r xs = none := by
  induction xs with
  | nil => rfl
  | cons x xs ih =>
    rw [reclaimsThrough, if_neg (h x List.mem_cons_self), ih fun y hy => h y (List.mem_cons_of_mem x hy)]
    rfl

theorem reclaimsThrough_some {r : EndReason} {xs : List (LeaseIdx × EndReason)} (h : ∃ x ∈ xs, x.2 = r) :
    ∃ ys, reclaimsThrough r xs = some ys := by
  induction xs with
  | nil => exact absurd h (by simp)
  | cons x xs ih =>
    by_cases hx : x.2 = r
    · exact ⟨_, if_pos hx⟩
    · obtain ⟨y, hy, hyr⟩ := h
      have hy' : y ∈ xs := (List.mem_cons.mp hy).resolve_left fun he => hx (he ▸ hyr)
      obtain ⟨ys, hys⟩ := ih ⟨y, hy', hyr⟩
      exact ⟨x :: ys, (if_neg hx).trans (by rw [hys]; rfl)⟩

/-- The first reclaim is for the reason: it alone is made. -/
theorem takeReclaim_head {i : LeaseIdx} {r : EndReason} {rest : List (LeaseIdx × EndReason)}
    (h : s.due.reclaims = (i, r) :: rest) : s.takeReclaim r = (s.setDue { s.due with reclaims := rest }).reclaim i r := by
  unfold takeReclaim
  rw [h, reclaimsThrough, if_pos rfl]
  rfl

/-- A first reclaim for another reason is made before those that follow it (09, R180). -/
theorem takeReclaim_cons {i : LeaseIdx} {q r : EndReason} {rest : List (LeaseIdx × EndReason)} (hne : q ≠ r)
    (h : s.due.reclaims = (i, q) :: rest) (hr : ∃ x ∈ rest, x.2 = r) : s.takeReclaim r = (s.takeReclaim q).takeReclaim r := by
  obtain ⟨ys, hys⟩ := reclaimsThrough_some hr
  have hthrough : reclaimsThrough r s.due.reclaims = some ((i, q) :: ys) := by
    rw [h, reclaimsThrough, if_neg hne, hys]
    rfl
  have hdue : (s.takeReclaim q).due = { s.due with reclaims := rest } := by
    rw [takeReclaim_head h, reclaim_setDue]
    rfl
  have hlater : (s.takeReclaim q).takeReclaim r = ((s.takeReclaim q).setDue { (s.takeReclaim q).due with
      reclaims := rest.drop ys.length }).reclaimAll ys := by
    rw [takeReclaim, hdue, hys]
  rw [hlater, hdue, takeReclaim_head h, takeReclaim, hthrough, h, reclaim_setDue]
  exact congrArg (State.reclaimAll · ys) (reclaim_setDue s _ i q)

end State

/-- A reclaim retires the lease and tells its holder, if the queue has room (05, R100; 08, R165). -/
theorem reclaim_form {i : LeaseIdx} {l : Lease} {a : Trib} (r : EndReason) (hl : s.leaseAt i = some l)
    (ha : l.holder = some a) :
    let kept := s.notices.filter fun q => decide (q.notice.handle ≠ some (s.handleOf i))
    let told : QueuedNotice := ⟨⟨a, some (s.handleOf i), l.seqEcho, .reclaimed r⟩, none, false, false, none, false⟩
    ∃ queue flags, s.reclaim i r = ((s.retire i r).setNotices queue).setAttention flags ∧
      queue = (if kept.length < 16 then kept ++ [told] else kept) ∧
      flags = (if kept.length < 16 then s.attention else s.attention ||| 0x080) := by
  refine ⟨_, _, ?_, rfl, rfl⟩
  unfold reclaim tellHolder
  simp only [hl, ha]
  rw [inform, submit_form, notices_retire s hl, attention_retire]
  rfl

/-- Settles O32: the reclaims of a verdict, in their order. -/
theorem reclaimsRetireAtOnce : Obligations.ReclaimsRetireAtOnce := by
  have hidle : ∀ s, exec .idleReclaim s = .next (s.takeReclaim .idle) := fun _ => rfl
  have htaken : ∀ s, exec .notTakenUpReclaim s = .next (s.takeReclaim .notTakenUp) := fun _ => rfl
  refine ⟨fun s => ⟨fun h => ?_, fun h => ?_⟩, fun s i rest => ⟨fun h hr => ⟨_, hidle s, ?_, ?_⟩,
    fun h hr => ⟨_, htaken s, ?_, ?_⟩⟩, fun s i l a r rest c hdue hl ha hrow => ?made⟩
  · rw [htaken, takeReclaim, reclaimsThrough_none h]
  · rw [hidle, takeReclaim, reclaimsThrough_none h]
  · rw [takeReclaim_head h, reclaim_setDue]
    rfl
  · exact congrArg Host.Outcome.next (takeReclaim_cons (by decide) h hr)
  · rw [takeReclaim_head h, reclaim_setDue]
    rfl
  · exact congrArg Host.Outcome.next (takeReclaim_cons (by decide) h hr)
  case made =>
    have hexec : exec c s = .next ((s.reclaim i r).setDue { s.due with reclaims := rest }) := by
      rw [← reclaim_setDue, ← takeReclaim_head hdue]
      rcases hrow with ⟨rfl, rfl⟩ | ⟨rfl, rfl⟩
      · rfl
      · rfl
    obtain ⟨queue, flags, hform, hqueue, hflags⟩ := reclaim_form r hl ha
    have hu : Retired i (s.handleOf i) l r s (s.retire i r) := retired_retire hl rfl
    rw [hexec, hform]
    generalize s.retire i r = u at hu
    obtain ⟨hfg, hrequests, hdeferred, hpointer, huplink, hcredited, -, hattnEn, hsettings, hport, hcmd, -, -⟩ := hu.untouched
    exact ⟨_, rfl, rfl, hu.leases, hu.slotAt, ⟨hqueue, hflags⟩, hu.holder a ha, hu.engine, hu.overtaken.underMove,
      hu.overtaken.other, hfg, hrequests, hdeferred, hpointer, huplink, hcredited, hattnEn, hsettings, hcmd, hport⟩

end Sys2Proof.Machine
end

section
/-!
PROOFS. The holder removal (03, R71): several leases retired, said once, and the four rows that carry it out.
-/
namespace Sys2Proof.Machine

open State

variable {s : State}

/-- A position record after the leases that `m` picks are retired, with guards to `g` (01, R22; 02, R37). -/
def Slot.vacatedBy (m : LeaseIdx → Bool) (g : Frame) (x : Slot) : Slot :=
  let y : Slot := if x.owner.any m then { x with owner := none, ownerUntil := none, guardUntil := some g } else x
  if x.incoming.any fun n => m n.lease then { y with incoming := none } else y

theorem Slot.vacatedBy_none (g : Frame) (x : Slot) : x.vacatedBy (fun _ => false) g = x := by
  unfold Slot.vacatedBy
  rw [if_neg (by simp), if_neg (by simp)]

/-- A record after one lease is retired. -/
theorem Slot.vacatedBy_one (i : LeaseIdx) (g : Frame) (x : Slot) : x.vacatedBy (fun j => decide (j = i)) g =
    (let y : Slot := if x.owner = some i then { x with owner := none, ownerUntil := none, guardUntil := some g } else x
     if x.incoming.map Incoming.lease = some i then { y with incoming := none } else y) := by
  have howner : (x.owner.any fun j => decide (j = i)) = true ↔ x.owner = some i := by
    rw [Option.any_eq_true]
    exact ⟨fun ⟨j, hj, h⟩ => by rw [hj, of_decide_eq_true h], fun h => ⟨i, h, decide_eq_true rfl⟩⟩
  have hincoming : (x.incoming.any fun n => decide (n.lease = i)) = true ↔ x.incoming.map Incoming.lease = some i := by
    rw [Option.any_eq_true, Option.map_eq_some_iff]
    exact exists_congr fun n => and_congr_right fun _ => decide_eq_true_iff
  unfold Slot.vacatedBy
  simp only [howner, hincoming]

/-- The record field by field. -/
theorem Slot.vacatedBy_eq (m : LeaseIdx → Bool) (g : Frame) (x : Slot) : x.vacatedBy m g =
    ⟨if x.owner.any m then none else x.owner, if x.owner.any m then none else x.ownerUntil,
      if x.incoming.any (fun n => m n.lease) then none else x.incoming, if x.owner.any m then some g else x.guardUntil,
      x.quarantine⟩ := by
  unfold Slot.vacatedBy
  by_cases hown : x.owner.any m = true
  · by_cases hinc : (x.incoming.any fun n => m n.lease) = true
    · simp only [hown, hinc, if_true]
    · simp only [hown, hinc, if_true, if_false, Bool.false_eq_true]
  · by_cases hinc : (x.incoming.any fun n => m n.lease) = true
    · simp only [hown, hinc, if_true, if_false, Bool.false_eq_true]
    · simp only [hown, hinc, if_false, Bool.false_eq_true]

/-- What is cleared where `m` holds, and then where `m'` holds. -/
theorem any_cleared {α : Type} (o : Option α) (m m' : α → Bool) :
    (if o.any m then none else o).any m' = (!o.any m && o.any m') ∧ o.any (fun a => m a || m' a) = (o.any m || o.any m') := by
  cases o with
  | none => exact ⟨rfl, rfl⟩
  | some a => cases h : m a <;> simp [h]

/-- Leases retired in two turns are retired. -/
theorem Slot.vacatedBy_vacatedBy (m m' : LeaseIdx → Bool) (g : Frame) (x : Slot) :
    (x.vacatedBy m g).vacatedBy m' g = x.vacatedBy (fun i => m i || m' i) g := by
  obtain ⟨hown, hown'⟩ := any_cleared x.owner m m'
  obtain ⟨hinc, hinc'⟩ := any_cleared x.incoming (fun n => m n.lease) (fun n => m' n.lease)
  simp only [Slot.vacatedBy_eq, hown, hown', hinc, hinc']
  cases x.owner.any m <;> cases (x.incoming.any fun n => m n.lease) <;> simp

namespace State

/-- The run length of the lease in entry `i`, 0 where it is FREE. -/
def runOf (s : State) (i : LeaseIdx) : Nat :=
  match s.leaseAt i with
  | some l => runLength l.cls
  | none => 0

theorem slotsOf_eq_runOf (s : State) (a : Trib) : s.slotsOf a = ((s.leasesOf a).map s.runOf).sum := rfl

theorem runOf_congr {u : State} {i : LeaseIdx} (h : u.leaseAt i = s.leaseAt i) : u.runOf i = s.runOf i := by
  unfold runOf
  rw [h]

/-- What the retirement of the leases `ls`, all of tributary `a`, makes of every record (01, R22; 03, R71). -/
structure RetiredAll (ls : List LeaseIdx) (a : Trib) (r : EndReason) (s u : State) : Prop where
  leases : ∀ i, u.leases.get i = if i ∈ ls then ⟨(s.leases.get i).generation + 1, some r, none⟩ else s.leases.get i
  slotAt : ∀ p, u.slotAt p = (s.slotAt p).map (Slot.vacatedBy (fun i => decide (i ∈ ls)) (s.counter + 2))
  notices : u.notices = s.notices.filter fun q =>
    !(q.notice.handle.any fun h => decide (h.index ∈ ls) && decide (h = s.handleOf h.index))
  holder : { u.entry a with lastSeq := none, reply := none } = { s.entry a with
    lastSeq := none, reply := none,
    slotsHeld := (s.entry a).slotsHeld - (ls.map s.runOf).sum, leasesHeld := (s.entry a).leasesHeld - ls.length }
  others : ∀ b, b ≠ a → u.entry b = s.entry b
  engine : u.engine = { s.engine with
    reconsider := s.engine.reconsider || !ls.isEmpty, stepReady := u.engine.stepReady }
  underMove : ∀ i l, i ∈ ls → s.leaseAt i = some l → s.worker.underMove = some (s.handleOf i) →
    u.worker = { s.worker with status := .active .step, scan := l.start.val + 1, underMove := none } ∧ u.engine.stepReady = true
  other : (∀ i ∈ ls, s.worker.underMove ≠ some (s.handleOf i)) → u.worker = s.worker ∧ u.engine.stepReady = s.engine.stepReady
  untouched : Untouched s u

variable {ls : List LeaseIdx} {a : Trib} {r : EndReason} {i : LeaseIdx} {l : Lease} {u v : State}

theorem Untouched.trans (h : Untouched s v) (g : Untouched v u) : Untouched s u :=
  ⟨g.fg.trans h.fg, g.requests.trans h.requests, g.deferred.trans h.deferred, g.turnPointer.trans h.turnPointer,
    g.uplink.trans h.uplink, g.credited.trans h.credited, g.attention.trans h.attention, g.attnEn.trans h.attnEn,
    g.settings.trans h.settings, g.port.trans h.port, g.cmd.trans h.cmd, g.due.trans h.due, g.pending.trans h.pending⟩

theorem retiredAll_nil : RetiredAll [] a r s s where
  leases _ := rfl
  slotAt p := by
    have : Slot.vacatedBy (fun i => decide (i ∈ ([] : List LeaseIdx))) (s.counter + 2) = id :=
      funext fun x => by simpa using Slot.vacatedBy_none (s.counter + 2) x
    rw [this, Option.map_id_fun, id]
  notices := (List.filter_eq_self.mpr fun q _ => by simp).symm
  holder := rfl
  others _ _ := rfl
  engine := by simp
  underMove _ _ h := absurd h (by simp)
  other _ := ⟨rfl, rfl⟩
  untouched := ⟨rfl, rfl, rfl, rfl, rfl, rfl, rfl, rfl, rfl, rfl, rfl, rfl, rfl⟩

theorem Retired.get_ne {h : Handle} (hv : Retired i h l r s v) {j : LeaseIdx} (hj : j ≠ i) :
    v.leases.get j = s.leases.get j := by
  rw [hv.leases, Table.get_set_ne _ _ hj]

theorem Retired.leaseAt_ne {h : Handle} (hv : Retired i h l r s v) {j : LeaseIdx} (hj : j ≠ i) :
    v.leaseAt j = s.leaseAt j := congrArg LeaseEntry.lease (hv.get_ne hj)

theorem Retired.handleOf_ne {h : Handle} (hv : Retired i h l r s v) {j : LeaseIdx} (hj : j ≠ i) :
    v.handleOf j = s.handleOf j := congrArg (fun e : LeaseEntry => Handle.mk j e.generation) (hv.get_ne hj)

/-- The holder's entry after one retirement, but for its reply copy and sequence bit (07, R134). -/
theorem Retired.holder_counts {h : Handle} (hv : Retired i h l r s v) (ha : l.holder = some a) :
    { v.entry a with lastSeq := none, reply := none } = { s.entry a with
      lastSeq := none, reply := none,
      slotsHeld := (s.entry a).slotsHeld - runLength l.cls, leasesHeld := (s.entry a).leasesHeld - 1 } := by
  obtain ⟨hforgets, hkeeps⟩ := hv.holder a ha
  unfold entry at hforgets hkeeps ⊢
  by_cases hf : l.origin = .bus ∧ ∃ c, (s.roster.get a).reply = some c ∧ c.notice.isGrant = true ∧ c.notice.handle = some h
  · rw [hforgets hf, Table.get_set_eq]
    rfl
  · rw [hkeeps hf, Table.get_set_eq]
    rfl

theorem Retired.others {h : Handle} (hv : Retired i h l r s v) (ha : l.holder = some a) {b : Trib} (hb : b ≠ a) :
    v.entry b = s.entry b := by
  obtain ⟨hforgets, hkeeps⟩ := hv.holder a ha
  unfold entry at hforgets hkeeps ⊢
  by_cases hf : l.origin = .bus ∧ ∃ c, (s.roster.get a).reply = some c ∧ c.notice.isGrant = true ∧ c.notice.handle = some h
  · rw [hforgets hf, Table.get_set_ne _ _ hb]
  · rw [hkeeps hf, Table.get_set_ne _ _ hb]

/-- One lease retired before the others. -/
theorem retiredAll_cons (hl : s.leaseAt i = some l) (ha : l.holder = some a) (hi : i ∉ ls)
    (hv : Retired i (s.handleOf i) l r s v) (hu : RetiredAll ls a r v u) : RetiredAll (i :: ls) a r s u where
  leases j := by
    rw [hu.leases]
    by_cases hj : j = i
    · subst hj
      rw [if_neg hi, if_pos List.mem_cons_self, hv.leases, Table.get_set_eq]
      rfl
    · rw [hv.get_ne hj]
      exact if_congr (by rw [List.mem_cons, or_iff_right hj]) rfl rfl
  slotAt p := by
    have hcounter : v.counter = s.counter := congrArg FrameGen.counter hv.untouched.fg
    rw [hu.slotAt, hv.slotAt, Option.map_map, hcounter]
    refine congrArg (fun f => (s.slotAt p).map f) (funext fun x => ?_)
    rw [Function.comp_apply, ← Slot.vacatedBy_one, Slot.vacatedBy_vacatedBy]
    simp only [List.mem_cons, Bool.decide_or]
  notices := by
    rw [hu.notices, hv.notices, List.filter_filter]
    refine List.filter_congr fun q _ => ?_
    cases q.notice.handle with
    | none => rfl
    | some h =>
      by_cases hh : h.index = i
      · simp [hh, hi]
      · have hne : h ≠ s.handleOf i := fun he => hh (congrArg Handle.index he)
        simp [hh, hne, hv.handleOf_ne hh]
  holder := by
    have hruns : ls.map v.runOf = ls.map s.runOf :=
      List.map_congr_left fun j hj => runOf_congr (hv.leaseAt_ne fun he => hi (he ▸ hj))
    have hrun : s.runOf i = runLength l.cls := by
      unfold runOf
      rw [hl]
    refine hu.holder.trans ((congrArg (fun e : RosterEntry => { e with
      slotsHeld := e.slotsHeld - (ls.map v.runOf).sum, leasesHeld := e.leasesHeld - ls.length }) (hv.holder_counts ha)).trans ?_)
    simp only [hruns, List.map_cons, List.sum_cons, List.length_cons, hrun, Nat.sub_sub, Nat.add_comm 1]
  others b hb := (hu.others b hb).trans (hv.others ha hb)
  engine := by
    rw [hu.engine, hv.engine]
    simp
  underMove j k hj hk hm := by
    by_cases hji : j = i
    · subst hji
      obtain rfl : l = k := Option.some.inj (hl.symm.trans hk)
      obtain ⟨hworker, hready⟩ := hv.overtaken.underMove hm
      obtain ⟨hworker', hready'⟩ := hu.other fun j' _ => by simp [hworker]
      exact ⟨hworker'.trans hworker, hready'.trans hready⟩
    · have hother : s.worker.underMove ≠ some (s.handleOf i) := fun he =>
        hji (congrArg Handle.index (Option.some.inj (hm.symm.trans he)))
      obtain ⟨hworker, -⟩ := hv.overtaken.other hother
      rw [← hworker]
      exact hu.underMove j k ((List.mem_cons.mp hj).resolve_left hji) ((hv.leaseAt_ne hji).trans hk)
        (by rw [hworker, hv.handleOf_ne hji, hm])
  other hm := by
    obtain ⟨hworker, hready⟩ := hv.overtaken.other (hm i List.mem_cons_self)
    have hm' : ∀ j ∈ ls, v.worker.underMove ≠ some (v.handleOf j) := fun j hj => by
      rw [hworker, hv.handleOf_ne fun he => hi (he ▸ hj)]
      exact hm j (List.mem_cons_of_mem i hj)
    obtain ⟨hworker', hready'⟩ := hu.other hm'
    exact ⟨hworker'.trans hworker, hready'.trans hready⟩
  untouched := hv.untouched.trans hu.untouched

/-- Leases of one tributary retired one after another (01, R22; 03, R71). -/
theorem retiredAll_foldl (hls : ls.Nodup) (s : State) (h : ∀ i ∈ ls, ∃ l, s.leaseAt i = some l ∧ l.holder = some a) :
    RetiredAll ls a r s (ls.foldl (fun s i => s.retire i r) s) := by
  induction ls generalizing s with
  | nil => exact retiredAll_nil
  | cons i ls ih =>
    obtain ⟨hi, hls⟩ := List.nodup_cons.mp hls
    obtain ⟨l, hl, ha⟩ := h i List.mem_cons_self
    refine retiredAll_cons hl ha hi (retired_retire hl rfl) (ih hls _ fun j hj => ?_)
    rw [leaseAt_retire, if_neg fun he : j = i => hi (he ▸ hj)]
    exact h j (List.mem_cons_of_mem i hj)

theorem retiredAll_leasesOf (s : State) (a : Trib) (r : EndReason) :
    RetiredAll (s.leasesOf a) a r s ((s.leasesOf a).foldl (fun s i => s.retire i r) s) :=
  retiredAll_foldl ((List.nodup_finRange 32).filter _) s fun i hi => (mem_leasesOf s a i).mp hi

theorem heldBy_eq (s : State) (a : Trib) (i : LeaseIdx) : s.heldBy a i = decide (i ∈ s.leasesOf a) := by
  rw [Bool.eq_iff_iff, decide_eq_true_iff, mem_leasesOf]
  unfold heldBy
  split
  · next l hl => simp [hl]
  · next hl => simp [hl]

/-! ### The holder removal (03, R71) -/

/-- What a holder removal writes beside the leases that it retires: the queues, the retirement flag and the entry of the
tributary (03, R71). -/
theorem holderRemoved_of_retiredAll {final : RosterState} {requests : List Request} {deferred : List Deferred}
    {notices : List QueuedNotice} {engine : Engine} {roster : Table RosterEntry 30} {flags : BitVec 10}
    (hu : RetiredAll (s.leasesOf a) a r s u)
    (hd : deferred = u.deferred.filter fun d => decide (d.sender ≠ a))
    (hn : notices = u.notices.filter fun q => decide (q.notice.address ≠ a))
    (he : engine = { u.engine with retireFlags := u.engine.retireFlags.set a false })
    (hr : roster = u.roster.set a
      { u.entry a with state := final, identity := none, missed := 0, lastSeq := none, reply := none }) :
    HolderRemoved a r final s ((((((u.setRequests requests).setDeferred deferred).setNotices notices).setEngine
      engine).setRoster roster).setAttention flags) := by
  have hengine := hu.engine
  have hslot := hu.slotAt
  have hnotices := hu.notices
  simp only [← heldBy_eq] at hslot hnotices
  have hstep : engine.stepReady = u.engine.stepReady := by rw [he]
  refine ⟨fun i => (hu.leases i).trans (if_congr (by rw [heldBy_eq, decide_eq_true_iff]) rfl rfl), hslot, ?deferred,
    ?notices, ?entry, fun b hb => ?others, ?flags, ?reconsider, fun i l hl ha hm => ?worker, fun hm => ?other, hu.untouched.fg,
    hu.untouched.uplink, hu.untouched.credited, hu.untouched.attnEn, hu.untouched.settings, hu.untouched.port,
    hu.untouched.turnPointer, hu.untouched.due⟩
  case deferred => exact hd.trans (congrArg (List.filter _) hu.untouched.deferred)
  case notices => exact hn.trans ((congrArg (List.filter _) hnotices).trans (List.filter_filter ..))
  case entry =>
    refine (congrArg (Table.get · a) hr).trans ((Table.get_set_eq ..).trans ?_)
    exact congrArg (fun e : RosterEntry => { e with state := final, identity := none, missed := 0 }) hu.holder
  case others => exact (congrArg (Table.get · b) hr).trans ((Table.get_set_ne _ _ hb).trans (hu.others b hb))
  case flags =>
    change engine.retireFlags = _
    rw [he, hengine]
  case reconsider =>
    change engine.reconsider = _
    rw [he, hengine]
  case worker =>
    obtain ⟨hworker, hready⟩ := hu.underMove i l ((mem_leasesOf s a i).mpr ⟨l, hl, ha⟩) hl hm
    exact ⟨hworker, hstep.trans hready⟩
  case other =>
    obtain ⟨hworker, hready⟩ := hu.other hm
    exact ⟨hworker, hstep.trans hready⟩

theorem holderRemoved_holderRemoval (s : State) (a : Trib) (r : EndReason) (final : RosterState) :
    HolderRemoved a r final s (s.holderRemoval a r final) ∧
      (s.holderRemoval a r final).requests = s.requests.filter (fun q => decide (q.sender ≠ a)) ∧
      (s.holderRemoval a r final).engine.lastServed = s.engine.lastServed ∧
      (s.holderRemoval a r final).attention = s.attention ||| 0x004 ∧ (s.holderRemoval a r final).cmd = s.cmd := by
  have hu := retiredAll_leasesOf s a r
  unfold holderRemoval
  generalize (s.leasesOf a).foldl (fun s i => s.retire i r) s = u at hu
  exact ⟨holderRemoved_of_retiredAll hu rfl rfl rfl rfl, congrArg (List.filter _) hu.untouched.requests,
    (congrArg Engine.lastServed hu.engine :), congrArg (· ||| 0x004) hu.untouched.attention, hu.untouched.cmd⟩

end State

theorem exec_holderRetirement_of_waits {a : Trib} (hh : s.heard) (hw : s.nextWork = some (.retirement a)) :
    exec .holderRetirement s = .next ((s.served .internal).holderRemoval a .holderGone .absent) := by
  have h : exec .holderRetirement s = execHolderRetirement s := rfl
  rw [h, execHolderRetirement, hear_of_heard hh]
  simp only [hw]
  rfl

theorem evictAddress_present {w : Word} {a : Trib} (ha : argAddress w = some a)
    (hs : (s.entry a).state = .present ∨ (s.entry a).state = .silent ∨ (s.entry a).state = .leaving) :
    s.evictAddress w = (s.holderRemoval a .holderGone .absent).ok := by
  unfold evictAddress
  rw [ha]
  dsimp only
  rcases hs with hs | hs | hs
  · rw [hs]
  · rw [hs]
  · rw [hs]

theorem barAddress_unbarred {w : Word} {a : Trib} (ha : argAddress w = some a) (hs : (s.entry a).state ≠ .barred) :
    s.barAddress w = (s.holderRemoval a .barred .barred).ok := by
  unfold barAddress
  rw [ha]
  exact if_neg hs

/-- ROSTER raised by the command, and CMD_DONE by its end (10, R190, R193). -/
theorem attention_finish_roster {u : State} (h : u.attention = s.attention ||| 0x004) :
    (finish u.ok).attention = s.attention ||| 0x005 :=
  (congrArg (· ||| 0x001) h).trans (BitVec.or_assoc ..)

/-- Settles O43: LEAVE, the holder retirement, EVICT and BAR. -/
theorem holderRemovalTakesEveryTrace : Obligations.HolderRemovalTakesEveryTrace := by
  refine ⟨fun s r hw hm => ?leave, fun s a hh hw => ?retirement, fun s a hw ha hs => ?evict, fun s a hw ha hs => ?bar⟩
  case leave =>
    obtain ⟨hremoved, hrequests, hserved, hattention, hcmd⟩ :=
      holderRemoved_holderRemoval s.headTaken r.sender .holderGone .absent
    rw [exec_leave_of_waits hw hm]
    exact ⟨_, rfl, hremoved, hrequests, hserved, hattention, hcmd⟩
  case retirement =>
    obtain ⟨hremoved, hrequests, hserved, hattention, hcmd⟩ :=
      holderRemoved_holderRemoval (s.served .internal) a .holderGone .absent
    rw [exec_holderRetirement_of_waits hh hw]
    exact ⟨_, rfl, hremoved, hrequests, hserved, hattention, hcmd⟩
  case evict =>
    obtain ⟨hremoved, hrequests, hserved, hattention, hcmd⟩ :=
      holderRemoved_holderRemoval s.takeCommand a .holderGone .absent
    rw [exec_evict_of_waits hw, evictAddress_present (s := s.takeCommand) ha hs]
    generalize s.takeCommand.holderRemoval a .holderGone .absent = u at hremoved hrequests hserved hattention hcmd
    exact ⟨_, rfl, hremoved, hrequests, hserved, attention_finish_roster hattention, cmd_finish_ok hcmd⟩
  case bar =>
    obtain ⟨hremoved, hrequests, hserved, hattention, hcmd⟩ :=
      holderRemoved_holderRemoval s.takeCommand a .barred .barred
    rw [exec_bar_of_waits hw, barAddress_unbarred (s := s.takeCommand) ha hs]
    generalize s.takeCommand.holderRemoval a .barred .barred = u at hremoved hrequests hserved hattention hcmd
    exact ⟨_, rfl, hremoved, hrequests, hserved, attention_finish_roster hattention, cmd_finish_ok hcmd⟩

end Sys2Proof.Machine
end

section
/-!
PROOFS. The sending at a frame start (08, R166-R168): what is sent, and the records that its reports fix (01, R16, R19).
-/
namespace Sys2Proof.Machine

open State

variable {s b : State} {q : QueuedNotice} {rest : List QueuedNotice}

/-! ### What is sent (08, R166, R168) -/

/-- The model drops from the head what the statements say has run out (08, R168). -/
theorem expiredCopy_eq (now : Frame) (q : QueuedNotice) : q.expiredCopy now = q.runsOut now := by
  obtain ⟨n, link, answer, copy, effect, come⟩ := q
  unfold QueuedNotice.expiredCopy QueuedNotice.runsOut Notice.grantTerm
  cases copy with
  | false => rfl
  | true => cases n.body <;> cases effect <;> rfl

/-- The notice to send is the first that has not run out (08, R166, R168). -/
theorem nextToSend_eq (now : Frame) (l : List QueuedNotice) : nextToSend now l =
    ((l.dropWhile (QueuedNotice.runsOut now)).head?, (l.dropWhile (QueuedNotice.runsOut now)).tail) := by
  induction l with
  | nil => rfl
  | cons q rest ih =>
    rw [nextToSend, expiredCopy_eq, List.dropWhile_cons]
    split
    · exact ih
    · rfl

namespace State

/-- Nothing to send (08, R166). -/
theorem sendNotice_of_nil (h : b.notices.dropWhile (QueuedNotice.runsOut b.counter) = []) :
    b.sendNotice = b.setNotices [] ∧ b.sentNotice = none := by
  unfold sendNotice sentNotice
  rw [nextToSend_eq, h]
  exact ⟨rfl, rfl⟩

/-- The notice `q` is sent, and its reports are taken (08, R166, R167). -/
theorem sendNotice_of_cons (h : b.notices.dropWhile (QueuedNotice.runsOut b.counter) = q :: rest) :
    b.sendNotice = ((b.setNotices rest).reportSending q).reportAnswer q ∧
      b.sentNotice = some (q.fill b.counter b.settings.d) := by
  unfold sendNotice sentNotice
  rw [nextToSend_eq, h]
  exact ⟨rfl, rfl⟩

/-- The effect frame that the report of an answer records (08, R167). -/
def reportedFrame (u : State) (q : QueuedNotice) : Frame :=
  if q.link.isSome then u.counter + u.settings.d.setWidth 16 else u.counter

/-- The held copies of a roster entry after the effect frame `e` of notice `n` is recorded with it. -/
theorem entry_recordHeld (u : State) (n : Notice) (e : Frame) (a : Trib) : (u.recordHeld n e).entry a = { u.entry a with
    reply := (u.entry a).reply.map fun c =>
      if a = n.address ∧ c.notice = n ∧ c.effect = none then { c with effect := some e } else c } := by
  by_cases ha : a = n.address
  · subst ha
    have hself : ∀ {o : Option ReplyCopy}, (u.entry n.address).reply = o → u.entry n.address =
        { u.entry n.address with reply := o } := by
      rintro _ rfl
      rfl
    unfold recordHeld
    cases hc : (u.entry n.address).reply with
    | none => exact hself hc
    | some c =>
      by_cases hn : c.notice = n ∧ c.effect = none
      · simp only [if_pos hn, Option.map_some, true_and]
        exact Table.get_set_eq ..
      · simp only [if_neg hn, Option.map_some, true_and]
        exact hself hc
  · have hsame : ∀ c : ReplyCopy, (if a = n.address ∧ c.notice = n ∧ c.effect = none then { c with effect := some e } else c)
        = c := fun c => if_neg fun h => ha h.1
    simp only [hsame, Option.map_id']
    unfold recordHeld
    split
    · rfl
    · split
      · exact Table.get_set_ne _ _ ha
      · rfl

theorem recordHeld_form (u : State) (n : Notice) (e : Frame) : u.recordHeld n e = u.setRoster (u.recordHeld n e).roster := by
  unfold recordHeld
  split
  · rfl
  · split
    · rfl
    · rfl

/-- The report of an answer writes the notice queue and the roster alone (08, R167). -/
theorem reportAnswer_form (u : State) (q : QueuedNotice) :
    let records : Bool := q.answer && q.notice.isGrantOrReleased
    ∃ roster, u.reportAnswer q = (u.setNotices (if records = true then u.notices.map (recordQueued q.notice (u.reportedFrame q))
        else u.notices)).setRoster roster ∧
      ∀ a, roster.get a = { u.entry a with reply := (u.entry a).reply.map fun c =>
        if records = true ∧ a = q.notice.address ∧ c.notice = q.notice ∧ c.effect = none
        then { c with effect := some (u.reportedFrame q) } else c } := by
  intro records
  unfold reportAnswer
  by_cases hr : records = true
  · rw [if_pos (Bool.and_eq_true_iff.mp hr), if_pos hr, recordHeld_form]
    refine ⟨_, rfl, fun a => (entry_recordHeld _ _ _ a).trans ?_⟩
    simp only [hr, true_and]
    rfl
  · rw [if_neg (mt Bool.and_eq_true_iff.mpr hr), if_neg hr]
    refine ⟨u.roster, rfl, fun a => ?_⟩
    simp only [hr, false_and, if_false, Option.map_id', Bool.false_eq_true]
    rfl

/-- The frame that the sending falls in, and the configuration (06, R117). -/
theorem stepsTaken_counter {first : List FrameStep} (hb : StepsTaken first s.begun b) (hp : b.fg.phase = .inFrame) :
    b.counter = s.newFrame ∧ b.settings = s.settings := by
  have hb' := (stepsTaken_iff _ _ _).mp hb
  obtain ⟨hfg, -, -, -, -, hset, -⟩ : Aside s.begun b := hb' ▸ aside_takeSteps s.begun first (hb' ▸ hp)
  exact ⟨congrArg FrameGen.counter hfg, hset⟩

/-- FRAME_START is the sending, the marks of R148 and the marker (06, R126, R128). -/
theorem exec_frameStart_marker {first : List FrameStep} (j k : Nat) (hq : s.quiet) (hf : s.frameFollows)
    (hb : StepsTaken first s.begun b) (hp : b.fg.phase = .inFrame) :
    ∃ (pointer : Nat) (fg : FrameGen) (uplink : UplinkRx) (turn : Turn) (isOpen resumed : Bool),
      exec (.frameStart ⟨first, [], j, k⟩) s =
        .next (((b.sendNotice.markCopies.setTurnPointer pointer).setFg fg).setUplink uplink) ∧
      fg.downlink = some (downlinkWord b.sentNotice) ∧
      fg.marker = some (markerWord b.counter turn isOpen resumed b.sentNotice.isSome) := by
  have hexec := exec_frameStart_sends first j k hq hf hb hp
  rw [buildMarker_form] at hexec
  have hcounter : b.sendNotice.markCopies.counter = b.counter := congrArg FrameGen.counter (sent_frame b).1
  rw [hcounter] at hexec
  exact ⟨_, _, _, _, _, _, hexec, rfl, rfl⟩

/-- A notice that is no copy is sent: what its report makes of the leases, the slot map, the engine and the worker stands, and
the deferred list and the flags with them (08, R167). -/
theorem exec_frameStart_report {first : List FrameStep} (j k : Nat) (hq : s.quiet) (hf : s.frameFollows)
    (hb : StepsTaken first s.begun b) (hp : b.fg.phase = .inFrame)
    (hsent : b.notices.dropWhile (QueuedNotice.runsOut s.newFrame) = q :: rest) :
    ∃ t queue roster pointer fg uplink, exec (.frameStart ⟨first, [], j, k⟩) s = .next t ∧
      t = ((((((b.setNotices rest).reportSending q).setNotices queue).setRoster roster).setTurnPointer pointer).setFg
        fg).setUplink uplink := by
  obtain ⟨pointer, fg, uplink, -, -, -, hexec, -⟩ := exec_frameStart_marker j k hq hf hb hp
  rw [← (stepsTaken_counter hb hp).1] at hsent
  obtain ⟨roster, hanswer, -⟩ := reportAnswer_form ((b.setNotices rest).reportSending q) q
  rw [(sendNotice_of_cons hsent).1, hanswer] at hexec
  exact ⟨_, _, _, pointer, fg, uplink, hexec, rfl⟩

variable {i : LeaseIdx} {l : Lease}

/-! ### The reports of effect-bearing sendings (08, R167) -/

theorem reportSending_grant {u : State} {start : Pos} {c : LenClass} {o : BitVec 3} {term : BitVec 16}
    (hlink : q.link = some i) (hbody : q.notice.body = .grant start c o term) :
    u.reportSending q = u.grantSent i (u.counter + u.settings.d.setWidth 16) := by
  unfold reportSending
  simp only [hlink, hbody]

theorem reportSending_end {u : State} (hlink : q.link = some i)
    (hkind : q.notice.body.kind = 3 ∨ q.notice.body.kind = 4) : u.reportSending q = u.endSent i := by
  unfold reportSending
  simp only [hlink]
  cases hbody : q.notice.body <;> simp [NoticeBody.kind, hbody] at hkind ⊢

theorem grantSent_eq {u : State} (hl : u.leaseAt i = some l) (e : Frame) : u.grantSent i e =
    (u.setLease i { l with startFrame := some e, state := if l.state = .announcing then .pending else l.state }).mapSlots
      fun _ => Slot.writeFrom i e := by
  unfold grantSent
  rw [hl]

theorem endSent_eq {u : State} (hl : u.leaseAt i = some l) :
    u.endSent i = (u.setLease i (l.fixEnd u.counter u.settings.d)).writeUntils i := by
  unfold endSent
  rw [hl]

/-- The other entries of the lease table stay where one is written. -/
theorem leases_setLease_ne (u : State) (l : Lease) {j : LeaseIdx} (hj : j ≠ i) :
    (u.setLease i l).leases.get j = u.leases.get j := Table.get_set_ne _ _ hj

/-- Lease table, deferred list, worker, engine and flags after a sending are those after its report. -/
theorem fields_of_report {u t : State} {queue : List QueuedNotice} {roster : Table RosterEntry 30} {pointer : Nat}
    {fg : FrameGen} {uplink : UplinkRx}
    (ht : t = ((((u.setNotices queue).setRoster roster).setTurnPointer pointer).setFg fg).setUplink uplink) :
    (∀ i, t.leaseAt i = u.leaseAt i) ∧ (∀ p, t.slotAt p = u.slotAt p) ∧ (∀ i, t.leases.get i = u.leases.get i) ∧
      t.deferred = u.deferred ∧ t.worker = u.worker ∧ t.engine = u.engine ∧ t.attention = u.attention := by
  subst ht
  exact ⟨fun _ => rfl, fun _ => rfl, fun _ => rfl, rfl, rfl, rfl, rfl⟩

end State

/-- The end frame that a sent end notice fixes, and whether it is the announced one (01, R19). -/
theorem fixEnd_eq {l : Lease} {st : Frame} (hst : l.startFrame = some st) (sent : Frame) (d : BitVec 4) :
    let sentAt := (sent - st).toNat + d.toNat
    ∃ (e : Frame) (announced : Bool), l.fixEnd sent d = { l with endFrame := some e, endAnnounced := announced } ∧
      (∀ e', l.endFrame = some e' → (e' - st).toNat < sentAt → e = e' ∧ announced = false) ∧
      (∀ e', l.endFrame = some e' → (e' - st).toNat = sentAt → e = e' ∧ announced = true) ∧
      (∀ e', l.endFrame = some e' → sentAt < (e' - st).toNat → e = sent + d.setWidth 16 ∧ announced = true) ∧
      (l.endFrame = none → e = sent + d.setWidth 16 ∧ announced = true) := by
  intro sentAt
  cases he : l.endFrame with
  | none =>
    refine ⟨sent + d.setWidth 16, true, ?_, by simp, by simp, by simp, fun _ => ⟨rfl, rfl⟩⟩
    simp only [Lease.fixEnd, hst, he]
  | some e =>
    have hfix : l.fixEnd sent d = if sentAt < (e - st).toNat then
        { l with endFrame := some (sent + d.setWidth 16), endAnnounced := true }
      else if sentAt = (e - st).toNat then { l with endAnnounced := true } else { l with endAnnounced := false } := by
      simp only [Lease.fixEnd, hst, he]
      rfl
    have hself : ∀ announced, ({ l with endAnnounced := announced } : Lease) =
        { l with endFrame := some e, endAnnounced := announced } := fun _ => by rw [← he]
    rw [hfix]
    rcases Nat.lt_trichotomy sentAt (e - st).toNat with h | h | h
    · refine ⟨_, true, if_pos h, ?_, ?_, fun _ _ _ => ⟨rfl, rfl⟩, by simp⟩
      · rintro e' he' hlt
        obtain rfl := Option.some.inj he'
        omega
      · rintro e' he' heq
        obtain rfl := Option.some.inj he'
        omega
    · refine ⟨e, true, (if_neg (by omega)).trans ((if_pos h).trans (hself true)), ?_, ?_, ?_, by simp⟩
      · rintro e' he' hlt
        obtain rfl := Option.some.inj he'
        omega
      · rintro e' he' -
        exact ⟨Option.some.inj he', rfl⟩
      · rintro e' he' hlt
        obtain rfl := Option.some.inj he'
        omega
    · refine ⟨e, false, (if_neg (by omega)).trans ((if_neg (by omega)).trans (hself false)), ?_, ?_, ?_, by simp⟩
      · rintro e' he' -
        exact ⟨Option.some.inj he', rfl⟩
      · rintro e' he' heq
        obtain rfl := Option.some.inj he'
        omega
      · rintro e' he' hlt
        obtain rfl := Option.some.inj he'
        omega

/-- The owner-until of a lease with a start and an end frame: the old run of a SENT move keeps an earlier effect frame (01,
R10; 06, R118). -/
theorem ownerWord_eq {l : Lease} {st e : Frame} (hst : l.startFrame = some st) (he : l.endFrame = some e) (now : Frame)
    (d : BitVec 4) : l.ownerWord now d = (match l.move with
      | some ⟨_, some m⟩ => if l.endAnnounced = true ∨ (m - d.setWidth 16 - st).toNat + d.toNat < (e - st).toNat then some m
        else l.untilWord now
      | _ => l.untilWord now) := by
  unfold Lease.ownerWord
  rcases l.move with _ | ⟨target, _ | m⟩
  · rfl
  · rfl
  · simp only [hst, he, Lease.movesBefore, Bool.or_eq_true, decide_eq_true_iff]
    rfl

/-- Settles O17: the sending of a GRANT. -/
theorem grantSentFixesStartFrame : Obligations.GrantSentFixesStartFrame := by
  intro first j k s b q rest i l start c o term hq hf hb hp hsent hcopy hlink hbody hl
  obtain ⟨t, queue, roster, pointer, fg, uplink, hexec, ht⟩ := exec_frameStart_report j k hq hf hb hp hsent
  obtain ⟨hcounter, hset⟩ := stepsTaken_counter hb hp
  have hreport : (b.setNotices rest).reportSending q = _ := (reportSending_grant hlink hbody).trans
    (grantSent_eq (u := b.setNotices rest) hl _)
  rw [show (b.setNotices rest).counter = s.newFrame from hcounter,
    show (b.setNotices rest).settings = s.settings from hset] at hreport
  rw [hreport] at ht
  obtain ⟨hlease, hslot, hleases, hdeferred, hworker, hengine, hattention⟩ := fields_of_report ht
  refine ⟨t, hexec, ⟨(hlease i).trans (leaseAt_setLease_self ..), fun p => ?_⟩,
    fun j hj => (hleases j).trans (leases_setLease_ne _ _ hj), hdeferred, hworker, hengine, hattention⟩
  exact (hslot p).trans (slotAt_mapSlots ..)

/-- Settles O18: the sending of a linked RELEASED or REVOKED. -/
theorem endNoticeSentFixesEndFrame : Obligations.EndNoticeSentFixesEndFrame := by
  intro first j k s b q rest i l st hq hf hb hp hsent hcopy hlink hkind hl hst
  obtain ⟨t, queue, roster, pointer, fg, uplink, hexec, ht⟩ := exec_frameStart_report j k hq hf hb hp hsent
  obtain ⟨hcounter, hset⟩ := stepsTaken_counter hb hp
  obtain ⟨e, announced, hfix, hearlier, hequal, hlater, hnone⟩ := fixEnd_eq hst s.newFrame s.settings.d
  have hl' := leaseAt_setLease_self (b.setNotices rest) i { l with endFrame := some e, endAnnounced := announced }
  have hreport : (b.setNotices rest).reportSending q = _ := (reportSending_end hlink hkind).trans
    (endSent_eq (u := b.setNotices rest) hl)
  rw [show (b.setNotices rest).counter = s.newFrame from hcounter,
    show (b.setNotices rest).settings = s.settings from hset, hfix, writeUntils_eq hl'] at hreport
  rw [hreport] at ht
  obtain ⟨hlease, hslot, hleases, hdeferred, hworker, hengine, hattention⟩ := fields_of_report ht
  refine ⟨t, hexec, ⟨e, announced, hearlier, hequal, hlater, hnone, (hlease i).trans hl', fun p x hx => ?slot⟩,
    fun j hj => (hleases j).trans (leases_setLease_ne _ _ hj), hdeferred, hworker, hengine, hattention⟩
  case slot =>
    refine ⟨_, ((hslot p).trans (slotAt_mapSlots ..)).trans (congrArg (Option.map _) hx), ?_⟩
    rw [Slot.writeUntil_eq]
    refine ⟨rfl, rfl, rfl, ?ownerUntil, ?incoming⟩
    all_goals
      rw [show ((b.setNotices rest).setLease i _).counter = s.newFrame from hcounter]
    case ownerUntil =>
      rw [show ((b.setNotices rest).setLease i _).settings = s.settings from hset,
        ownerWord_eq (l := { l with endFrame := some e, endAnnounced := announced }) hst rfl,
        untilWord_eq (l := { l with endFrame := some e, endAnnounced := announced }) hst rfl]
      <;> rfl
    case incoming =>
      rw [untilWord_eq (l := { l with endFrame := some e, endAnnounced := announced }) hst rfl]

end Sys2Proof.Machine
end

section
/-!
PROOFS. The notice sent at a frame start, its word and its layout (08, R153-R158, R166-R168; 07, R148).
-/
namespace Sys2Proof.Machine

open State

variable {s b : State} {q : QueuedNotice} {rest : List QueuedNotice}

/-! ### What a sending fills in (08, R166, R168) -/

namespace QueuedNotice

theorem fill_link (h : q.link.isSome = true) (now : Frame) (d : BitVec 4) :
    q.fill now d = q.notice.withOffset (d.setWidth 3) := if_pos h

theorem fill_plain (hl : q.link = none) (h : q.copy = false ∨ q.notice.isGrantOrReleased = false) (now : Frame)
    (d : BitVec 4) : q.fill now d = q.notice := by
  unfold fill
  rw [if_neg (by simp [hl]), if_neg]
  rintro ⟨hc, hg⟩
  rcases h with h | h
  · exact absurd (hc.symm.trans h) (by decide)
  · exact absurd (hg.symm.trans h) (by decide)

theorem fill_copy (hl : q.link = none) (hc : q.copy = true) (hg : q.notice.isGrantOrReleased = true) (now : Frame)
    (d : BitVec 4) : q.fill now d = q.fillCopy now := by
  unfold fill
  rw [if_neg (by simp [hl]), if_pos ⟨hc, hg⟩]

theorem effectCome_iff (now e : Frame) (q : QueuedNotice) :
    q.effectCome now e = true ↔ q.come = true ∨ (now - e).toNat < 32768 := by
  rw [effectCome, Bool.or_eq_true, Machine.come, decide_eq_true_iff]

/-- A copy of a RELEASED (08, R168). -/
theorem fillCopy_released {o : BitVec 3} {reason : EndReason} (hb : q.notice.body = .released o reason) (now : Frame) :
    q.fillCopy now = { q.notice with
      body := .released (match q.effect with
        | none => 0
        | some e => if q.come = true ∨ (now - e).toNat < 32768 then 0 else (e - now).setWidth 3) reason } := by
  have hoff : ∀ x, q.notice.withOffset x = { q.notice with body := .released x reason } := fun x => by
    rw [Notice.withOffset, hb]
  have hterm : q.notice.grantTerm = none := by rw [Notice.grantTerm, hb]
  unfold fillCopy
  cases q.effect with
  | none => exact hoff 0
  | some e =>
    simp only [hterm, hoff, effectCome_iff]
    split
    · rfl
    · rfl

/-- A copy of a GRANT (08, R168). -/
theorem fillCopy_grant {start : Pos} {c : LenClass} {o : BitVec 3} {term : BitVec 16}
    (hb : q.notice.body = .grant start c o term) (now : Frame) : q.fillCopy now = { q.notice with
      body := match q.effect with
        | none => .grant start c 0 term
        | some e => if q.come = true ∨ (now - e).toNat < 32768
            then .grant start c 0 (if term = 65535 then term else term - (now - e))
            else .grant start c ((e - now).setWidth 3) term } := by
  have hoff : ∀ x, q.notice.withOffset x = { q.notice with body := .grant start c x term } := fun x => by
    rw [Notice.withOffset, hb]
  have hterm : q.notice.grantTerm = some term := by rw [Notice.grantTerm, hb]
  unfold fillCopy
  cases q.effect with
  | none => exact hoff 0
  | some e =>
    simp only [hterm, hoff, effectCome_iff]
    split
    · rfl
    · rfl

end QueuedNotice

/-! ### The layout of notices (08, R153, R155) -/

/-- The fields of a notice's word (08, R153). -/
theorem noticeWord_fields (n : Notice) :
    n.word.extractLsb' 60 4 = n.body.kind ∧ n.word.extractLsb' 55 5 = Trib.wire n.address ∧ n.word.getLsbD 54 = n.seqEcho ∧
      n.word.extractLsb' 46 8 = handleField n.handle ∧ n.word.extractLsb' 16 30 = n.body.arg := by
  unfold Notice.word Notice.payload
  refine ⟨?_, ?_, ?_, ?_, ?_⟩
  case refine_3 =>
    simp (index := false) only [BitVec.getLsbD_append]
    simp
  all_goals
    simp (index := false) only [BitVec.extractLsb'_append_eq_of_le, BitVec.extractLsb'_append_eq_of_add_le, Nat.reduceAdd,
      Nat.reduceLeDiff, Nat.reduceSub, BitVec.extractLsb'_eq_self]

theorem crc16_append (l : List Bool) (b : Bool) :
    crc16 (l ++ [b]) = if b ^^ (crc16 l).msb then (crc16 l <<< 1) ^^^ 0x1021 else crc16 l <<< 1 := by
  simp [crc16, checkStep]

/-- The fields of each kind's argument (08, R155). -/
theorem noticeArg_fields (p : Pos) (c : LenClass) (o : BitVec 3) (x : BitVec 16) (r : EndReason) (why : RefusalReason)
    (k : BitVec 6) (j : BitVec 4) (y : BitVec 8) (f : Bool) (st : LeaseState) :
    (let b := NoticeBody.grant p c o x
     b.arg.extractLsb' 24 6 = Pos.wire p ∧ b.arg.extractLsb' 21 3 = LenClass.wire c ∧
      b.arg.extractLsb' 18 3 = o ∧ b.arg.extractLsb' 2 16 = x ∧ b.arg.extractLsb' 0 2 = 0) ∧
    (let b := NoticeBody.move p o
     b.arg.extractLsb' 24 6 = Pos.wire p ∧ b.arg.extractLsb' 21 3 = o ∧ b.arg.extractLsb' 0 21 = 0) ∧
    (let b := NoticeBody.released o r
     b.arg.extractLsb' 27 3 = o ∧ b.arg.extractLsb' 23 4 = r.code ∧ b.arg.extractLsb' 0 23 = 0) ∧
    (let b := NoticeBody.reclaimed r
     b.arg.extractLsb' 26 4 = r.code ∧ b.arg.extractLsb' 0 26 = 0) ∧
    (let b := NoticeBody.refuse why x
     b.arg.extractLsb' 26 4 = why.code ∧ b.arg.extractLsb' 10 16 = x ∧ b.arg.extractLsb' 0 10 = 0) ∧
    (let b := NoticeBody.welcome x k j
     b.arg.extractLsb' 14 16 = x ∧ b.arg.extractLsb' 8 6 = k ∧ b.arg.extractLsb' 4 4 = j ∧ b.arg.extractLsb' 0 4 = 0) ∧
    (let b := NoticeBody.defer j y
     b.arg.extractLsb' 26 4 = j ∧ b.arg.extractLsb' 18 8 = y ∧ b.arg.extractLsb' 0 18 = 0) ∧
    (let b := NoticeBody.renewed x f
     b.arg.extractLsb' 14 16 = x ∧ b.arg.getLsbD 13 = f ∧ b.arg.extractLsb' 0 13 = 0) ∧
    (let b := NoticeBody.status st p c x f
     b.arg.extractLsb' 27 3 = st.code ∧ b.arg.extractLsb' 21 6 = Pos.wire p ∧
      b.arg.extractLsb' 18 3 = LenClass.wire c ∧ b.arg.extractLsb' 2 16 = x ∧ b.arg.getLsbD 1 = f ∧
      b.arg.getLsbD 0 = false) := by
  unfold NoticeBody.arg
  simp (index := false) only [BitVec.extractLsb'_append_eq_of_le, BitVec.extractLsb'_append_eq_of_add_le, Nat.reduceAdd,
    Nat.reduceLeDiff, Nat.reduceSub, BitVec.extractLsb'_eq_self, BitVec.getLsbD_append, true_and, and_true]
  simp

/-! ### What a sending leaves of the queue and the roster (08, R167; 07, R148) -/

namespace State

/-- The mark of R148 on the held copies of a roster entry. -/
theorem entry_markCopies (u : State) (a : Trib) : u.markCopies.entry a = { u.entry a with
    reply := (u.entry a).reply.map fun c => match c.effect with
      | some e => if (u.counter - e).toNat < 32768 then { c with come := true } else c
      | none => c } := by
  refine (Table.get_mapFrom _ _ _ _).trans ?_
  change RosterEntry.markCome u.counter (u.entry a) = _
  obtain ⟨state, identity, missed, lastSeq, reply, slotQuota, leaseQuota, slotsHeld, leasesHeld⟩ := u.entry a
  unfold RosterEntry.markCome
  rcases reply with _ | ⟨notice, _ | f, come⟩
  · rfl
  · rfl
  · simp only [Option.map_some, Machine.come, decide_eq_true_iff]
    split
    · rfl
    · rfl

/-- A sending with no link reports nothing to the lease engine (08, R167). -/
theorem reportSending_unlinked {u : State} (h : q.link = none) : u.reportSending q = u := by
  unfold reportSending
  rw [h]

/-- Only the report of a MOVE can reach the queue and the roster (05, R103; 01, R22). -/
theorem reportSending_records {u : State} (h : q.link = none ∨ q.notice.isMove = false) :
    (u.reportSending q).notices = u.notices ∧ (u.reportSending q).roster = u.roster := by
  rcases h with h | h
  · rw [reportSending_unlinked h]
    exact ⟨rfl, rfl⟩
  · have hgrant : ∀ i e, (u.grantSent i e).notices = u.notices ∧ (u.grantSent i e).roster = u.roster := by
      intro i e
      unfold grantSent
      split <;> simp
    have hend : ∀ i, (u.endSent i).notices = u.notices ∧ (u.endSent i).roster = u.roster := by
      intro i
      unfold endSent
      split <;> simp
    unfold reportSending
    split
    · exact ⟨rfl, rfl⟩
    · split
      · exact hgrant _ _
      · next hb =>
        rw [Notice.isMove, hb] at h
        exact absurd h (by simp [NoticeBody.kind])
      · exact hend _
      · exact hend _
      · exact ⟨rfl, rfl⟩

/-- The queue and the roster after the sending of `q`, where its report does not reach them (08, R167). -/
theorem sendNotice_records (hsent : b.notices.dropWhile (QueuedNotice.runsOut b.counter) = q :: rest)
    (h : q.link = none ∨ q.notice.isMove = false) :
    let records : Bool := q.answer && q.notice.isGrantOrReleased
    b.sendNotice.notices = (rest.map fun r => if records = true ∧ r.copy = true ∧ r.notice.address = q.notice.address ∧
        r.notice.body.kind = q.notice.body.kind ∧ r.notice.handle = q.notice.handle ∧ r.effect = none
      then { r with effect := some (b.reportedFrame q) } else r) ∧
    ∀ a, b.sendNotice.entry a = { b.entry a with reply := (b.entry a).reply.map fun c =>
      if records = true ∧ a = q.notice.address ∧ c.notice = q.notice ∧ c.effect = none
      then { c with effect := some (b.reportedFrame q) } else c } := by
  intro records
  obtain ⟨hnotices, hroster⟩ := reportSending_records (u := b.setNotices rest) h
  obtain ⟨hfg, -, -, -, -, -, -, hset, -⟩ := reportSending_frame (b.setNotices rest) q
  obtain ⟨roster, hanswer, hentries⟩ := reportAnswer_form ((b.setNotices rest).reportSending q) q
  have hframe : ((b.setNotices rest).reportSending q).reportedFrame q = b.reportedFrame q := by
    unfold reportedFrame counter
    rw [hfg, hset]
    rfl
  rw [(sendNotice_of_cons hsent).1, hanswer, hframe, hnotices]
  refine ⟨?queue, fun a => ?entry⟩
  case queue =>
    change (if records = true then _ else rest) = _
    by_cases hr : records = true
    · simp only [hr, true_and]
      rfl
    · simp only [hr, false_and, if_false, List.map_id', Bool.false_eq_true]
  case entry =>
    refine (hentries a).trans ?_
    rw [hframe, show ((b.setNotices rest).reportSending q).entry a = b.entry a from congrArg (Table.get · a) hroster]

end State

theorem handleField_fields {h : Handle} : ((handleField (some h)).extractLsb' 3 5).toNat = h.index.val ∧
    (handleField (some h)).extractLsb' 0 3 = h.generation := by
  unfold handleField Handle.wire
  simp (index := false) only [BitVec.extractLsb'_append_eq_of_le, BitVec.extractLsb'_append_eq_of_add_le, Nat.reduceAdd,
    Nat.reduceLeDiff, Nat.reduceSub, BitVec.extractLsb'_eq_self, and_true, BitVec.toNat_ofNat]
  exact Nat.mod_eq_of_lt h.index.isLt

/-- Settles O16: the reactions are their rows; the notice sent, its report and the marks; and the layout of its word. -/
theorem oldestNoticeIsSent : Obligations.OldestNoticeIsSent := by
  refine ⟨fun s => ⟨rfl, ⟨_, _, rfl, rfl, congrArg Host.Outcome.next (takeSlotMap_rows s)⟩, rfl, rfl, rfl⟩,
    fun first j k s b hq hf hb hp => ?sent, fun n => ?word, fun p c o x r why k j y f st => ?args, by decide, rfl,
    crc16_append⟩
  case sent =>
    intro now marked
    obtain ⟨pointer, fg, uplink, turn, isOpen, resumed, hexec, hdown, hmark⟩ := exec_frameStart_marker j k hq hf hb hp
    obtain ⟨hcounter, hset⟩ := stepsTaken_counter hb hp
    have hfollows : ∀ c, (markerWord c turn isOpen resumed b.sentNotice.isSome).getLsbD 8 = b.sentNotice.isSome :=
      fun c => (markerWord_fields c turn isOpen resumed _).2.2.2.2
    have hmarked : ∀ a, b.sendNotice.markCopies.entry a = { b.sendNotice.entry a with
        reply := (b.sendNotice.entry a).reply.map marked } := fun a => by
      rw [entry_markCopies, show b.sendNotice.counter = s.newFrame from (congrArg FrameGen.counter
        (sendNotice_frame b).1).trans hcounter]
      <;> rfl
    refine ⟨fun hnil => ?nothing, fun q rest hsent => ?notice, fun t ht => ?frame⟩
    case nothing =>
      rw [show now = b.counter from hcounter.symm] at hnil
      obtain ⟨hsend, hnone⟩ := sendNotice_of_nil hnil
      rw [hnone] at hdown
      refine ⟨_, hexec, congrArg State.notices hsend, hdown, ?_, fun a => (hmarked a).trans ?_⟩
      · rw [show State.fg _ = fg from rfl, hmark, Option.map_some, hfollows, hnone]
        rfl
      · rw [hsend]
        rfl
    case notice =>
      rw [show now = b.counter from hcounter.symm] at hsent
      obtain ⟨hsend, hsome⟩ := sendNotice_of_cons hsent
      rw [hsome] at hdown
      have hnow : b.counter = now := hcounter
      refine ⟨_, _, hexec, hdown, ?marker, fun h => ?linked, fun hl hc => q.fill_plain hl (.inl hc) _ _,
        fun hl _ hg => q.fill_plain hl (.inr hg) _ _, fun o reason hl hc hbody => ?released,
        fun start c o term hl hc hbody => ?grant, fun hmove => ?records⟩
      case marker =>
        rw [show State.fg _ = fg from rfl, hmark, Option.map_some, hfollows, hsome]
        rfl
      case linked => rw [q.fill_link h, hset]
      case released =>
        rw [q.fill_copy hl hc (by simp [Notice.isGrantOrReleased, hbody, NoticeBody.kind]), q.fillCopy_released hbody, hnow]
        <;> rfl
      case grant =>
        rw [q.fill_copy hl hc (by simp [Notice.isGrantOrReleased, hbody, NoticeBody.kind]), q.fillCopy_grant hbody, hnow]
        <;> rfl
      case records =>
        intro e records
        have he : b.reportedFrame q = e := by
          unfold reportedFrame
          rw [hnow, hset]
        obtain ⟨hqueue, hentries⟩ := sendNotice_records hsent hmove
        rw [he] at hqueue
        refine ⟨hqueue, fun a => (hmarked a).trans ?_⟩
        rw [hentries, he]
        simp only [Option.map_map]
        rfl
    case frame =>
      obtain rfl : _ = t := Host.Outcome.next.inj (hexec.symm.trans ht)
      obtain ⟨-, hreq, hdeferred, -, -, hcred, hattn, hset', hport, hcmd, hdue, -⟩ := sendNotice_frame b
      refine ⟨hreq, hdeferred, hcred, hattn, hset', hport, hcmd, hdue, fun hhead => ?_⟩
      have hsame : ∃ queue roster, b.sendNotice = (b.setNotices queue).setRoster roster := by
        cases hsent : b.notices.dropWhile (QueuedNotice.runsOut b.counter) with
        | nil => exact ⟨[], b.roster, (sendNotice_of_nil hsent).1⟩
        | cons q rest =>
          rw [show now = b.counter from hcounter.symm, hsent] at hhead
          obtain ⟨roster, hanswer, -⟩ := reportAnswer_form (b.setNotices rest) q
          exact ⟨_, roster, by rw [(sendNotice_of_cons hsent).1, reportSending_unlinked (hhead q rfl), hanswer]; rfl⟩
      obtain ⟨queue, roster, hsame⟩ := hsame
      rw [hsame]
      exact ⟨rfl, rfl, rfl, rfl, rfl⟩
  case word =>
    intro w
    obtain ⟨hkind, haddress, hseq, hhandle, harg⟩ := noticeWord_fields n
    have hindex : w.extractLsb' 49 5 = (handleField n.handle).extractLsb' 3 5 := by
      rw [← hhandle, extract_extract _ (by decide)]
    have hgeneration : w.extractLsb' 46 3 = (handleField n.handle).extractLsb' 0 3 := by
      rw [← hhandle, extract_extract _ (by decide)]
    refine ⟨hkind, ?_, hseq, fun h => by rw [hhandle, h]; rfl, fun h hh => ?_, harg, ?_⟩
    · rw [haddress, toNat_tribWire]
    · rw [hindex, hgeneration, hh]
      exact handleField_fields
    · rw [Notice.word_bits]
      exact n.word_parts.2
  case args =>
    have hp : (Pos.wire p).toNat = p.val := rfl
    have hc : (LenClass.wire c).toNat = c.val := by
      rw [LenClass.wire, BitVec.toNat_ofNat, Nat.mod_eq_of_lt (by omega)]
    obtain ⟨⟨g1, g2, g3, g4, g5⟩, ⟨m1, m2, m3⟩, hreleased, hreclaimed, hrefuse, hwelcome, hdefer, hrenewed,
      ⟨s1, s2, s3, s4, s5, s6⟩⟩ := noticeArg_fields p c o x r why k j y f st
    refine ⟨⟨rfl, ?_, ?_, g3, g4, g5⟩, ⟨rfl, ?_, m2, m3⟩, ⟨rfl, hreleased⟩, rfl, rfl, ⟨rfl, hreclaimed⟩, rfl, rfl,
      ⟨rfl, hrefuse⟩, ⟨rfl, hwelcome⟩, ⟨rfl, hdefer⟩, ⟨rfl, hrenewed⟩, ⟨rfl, s1, ?_, ?_, s4, s5, s6⟩⟩
    · rw [g1, hp]
    · rw [g2, hc]
    · rw [m1, hp]
    · rw [s2, hp]
    · rw [s3, hc]

end Sys2Proof.Machine
end

section
/-!
PROOFS. The record view: what VIEW_SELECT takes, and the layout of each table (10, R195, R196).
-/
namespace Sys2Proof.Machine

open State

variable {s : State}

/-! ### VIEW_SELECT as it is held (10, R195) -/

/-- A field within the mask of the used bits is that of the merged word. -/
theorem extract_and_mask (x m : Word) {k n : Nat} (hm : m.extractLsb' k n = BitVec.allOnes n) :
    (x &&& m).extractLsb' k n = x.extractLsb' k n := by
  rw [BitVec.extractLsb'_and, hm, BitVec.and_allOnes]

theorem port_finishEvents (s : State) : s.finishEvents.port = s.port := by
  unfold finishEvents finishSlotMap
  split <;> simp [takeReclaims]

/-! ### The layouts (10, R196) -/

/-- Table LEASE, an entry in use. -/
theorem leaseSnapshot_fields {e : LeaseEntry} {l : Lease} (hl : e.lease = some l) :
    let x := e.snapshot
    x.view0.extractLsb' 0 3 = l.state.code ∧ x.view0.extractLsb' 3 5 = holderWire l.holder ∧
      x.view0.extractLsb' 8 2 = l.origin.code ∧ x.view0.extractLsb' 10 6 = Pos.wire l.start ∧
      x.view0.extractLsb' 16 3 = LenClass.wire l.cls ∧ x.view0.extractLsb' 19 2 = l.priority ∧
      x.view0.extractLsb' 21 3 = e.generation ∧ x.view0.extractLsb' 24 4 = endReasonCode l.endReason ∧
      x.view0.getLsbD 28 = l.seqEcho ∧ x.view0.getLsbD 29 = l.takenUp ∧ x.view0.getLsbD 30 = false ∧
      x.view0.getLsbD 31 = true ∧
      x.view1.extractLsb' 0 16 = l.term ∧ x.view1.extractLsb' 16 8 = BitVec.ofNat 8 l.idle ∧
      x.view1.getLsbD 24 = l.startFrame.isSome ∧ x.view1.getLsbD 25 = l.endFrame.isSome ∧
      x.view1.getLsbD 26 = l.move.isSome ∧ x.view1.getLsbD 27 = sentMove l ∧ x.view1.extractLsb' 28 4 = 0 ∧
      x.view2.extractLsb' 0 16 = l.startFrame.getD 0 ∧ x.view2.extractLsb' 16 16 = l.endFrame.getD 0 := by
  unfold LeaseEntry.snapshot presence frameField
  simp (index := false) only [hl, BitVec.extractLsb'_append_eq_of_le, BitVec.extractLsb'_append_eq_of_add_le, Nat.reduceAdd,
    Nat.reduceLeDiff, Nat.reduceSub, BitVec.extractLsb'_eq_self, BitVec.getLsbD_append, true_and, and_true]
  simp

/-- Table LEASE, a FREE entry. -/
theorem freeSnapshot_fields {e : LeaseEntry} (hl : e.lease = none) :
    let x := e.snapshot
    x.view0.extractLsb' 0 21 = 0 ∧ x.view0.extractLsb' 21 3 = e.generation ∧
      x.view0.extractLsb' 24 4 = endReasonCode e.lastReason ∧ x.view0.extractLsb' 28 3 = 0 ∧
      x.view0.getLsbD 31 = true ∧ x.view1 = 0 ∧ x.view2 = 0 ∧ x.view3 = 0 := by
  unfold LeaseEntry.snapshot
  simp (index := false) only [hl, BitVec.extractLsb'_append_eq_of_le, BitVec.extractLsb'_append_eq_of_add_le, Nat.reduceAdd,
    Nat.reduceLeDiff, Nat.reduceSub, BitVec.extractLsb'_eq_self, BitVec.getLsbD_append, true_and, and_true]
  simp

/-- The move's part of table LEASE. -/
theorem moveSnapshot_fields {e : LeaseEntry} {l : Lease} (hl : e.lease = some l) :
    let x := e.snapshot
    (x.view3.extractLsb' 0 6).toNat = (l.move.map fun m => m.target.val).getD 0 ∧ x.view3.extractLsb' 6 10 = 0 ∧
      x.view3.extractLsb' 16 16 = (l.move.bind Move.effect).getD 0 ∧ sentMove l = (l.move.bind Move.effect).isSome := by
  unfold LeaseEntry.snapshot sentMove frameField
  cases hm : l.move with
  | none => simp [hl, hm]
  | some m =>
    simp (index := false) only [hl, hm, BitVec.extractLsb'_append_eq_of_le, BitVec.extractLsb'_append_eq_of_add_le,
      Nat.reduceAdd, Nat.reduceLeDiff, Nat.reduceSub, BitVec.extractLsb'_eq_self, true_and]
    exact ⟨rfl, rfl, rfl⟩

/-- Table POSITION, a leasable position. -/
theorem slotSnapshot_fields (y : Slot) :
    let x := y.snapshot
    x.view0.extractLsb' 0 4 = y.state.code ∧ x.view0.getLsbD 4 = y.quarantine ∧ x.view0.getLsbD 5 = y.owner.isSome ∧
      x.view0.extractLsb' 6 5 = indexField y.owner ∧ x.view0.getLsbD 11 = y.incoming.isSome ∧
      x.view0.extractLsb' 12 5 = indexField (y.incoming.map Incoming.lease) ∧
      x.view0.getLsbD 17 = (y.incoming.bind Incoming.fromFrame).isSome ∧
      x.view0.getLsbD 18 = (y.incoming.bind Incoming.untilFrame).isSome ∧
      x.view0.getLsbD 19 = y.ownerUntil.isSome ∧ x.view0.getLsbD 20 = y.guardUntil.isSome ∧
      x.view0.extractLsb' 21 10 = 0 ∧ x.view0.getLsbD 31 = true ∧
      x.view1.extractLsb' 0 16 = y.ownerUntil.getD 0 ∧ x.view1.extractLsb' 16 16 = y.guardUntil.getD 0 ∧
      x.view2.extractLsb' 0 16 = (y.incoming.bind Incoming.fromFrame).getD 0 ∧
      x.view2.extractLsb' 16 16 = (y.incoming.bind Incoming.untilFrame).getD 0 := by
  unfold Slot.snapshot presence frameField
  simp (index := false) only [BitVec.extractLsb'_append_eq_of_le, BitVec.extractLsb'_append_eq_of_add_le, Nat.reduceAdd,
    Nat.reduceLeDiff, Nat.reduceSub, BitVec.extractLsb'_eq_self, BitVec.getLsbD_append, true_and, and_true]
  simp

/-- The derived state of a position (02, R29). -/
theorem slotState_code (y : Slot) : y.state.code =
    if y.owner.isSome then
      (if y.ownerUntil.isSome then (if y.incoming.isSome then 6 else 5) else if y.incoming.isSome then 4 else 3)
    else if y.guardUntil.isSome then (if y.incoming.isSome then 8 else 7)
    else if y.incoming.isSome then 2 else if y.quarantine then 1 else 0 := by
  unfold Slot.state
  split
  case h_8 ho hg hi =>
    rw [ho, hg, hi]
    cases y.quarantine <;> rfl
  all_goals
    simp only [*]
    rfl

theorem toNat_indexField (o : Option LeaseIdx) : (indexField o).toNat = (o.map fun i => i.val).getD 0 := by
  cases o with
  | none => rfl
  | some i => rfl

/-- The bits of a notice as it is queued are those of its word (08, R153). -/
theorem highBits_eq (n : Notice) : n.highBits = n.word.extractLsb' 32 32 := by
  rw [Notice.highBits, ← n.word_parts.1, extract_extract _ (by decide)]

theorem lowBits_eq (n : Notice) : n.lowBits = n.word.extractLsb' 16 16 := by
  rw [Notice.lowBits, ← n.word_parts.1, extract_extract _ (by decide)]

/-- Table ROSTER. -/
theorem rosterSnapshot_fields (retire : Bool) (e : RosterEntry) :
    let x := e.snapshot retire
    x.view0.extractLsb' 0 3 = e.state.code ∧ x.view0.extractLsb' 3 5 = BitVec.ofNat 5 e.missed ∧
      x.view0.extractLsb' 8 2 = lastSeqField e.lastSeq ∧
      x.view0.getLsbD 10 = e.reply.isSome ∧ x.view0.extractLsb' 11 6 = BitVec.ofNat 6 e.slotQuota ∧
      x.view0.extractLsb' 17 4 = BitVec.ofNat 4 e.leaseQuota ∧ x.view0.extractLsb' 21 6 = BitVec.ofNat 6 e.slotsHeld ∧
      x.view0.extractLsb' 27 4 = BitVec.ofNat 4 e.leasesHeld ∧ x.view0.getLsbD 31 = true ∧
      x.view1.extractLsb' 0 16 = e.identity.getD 0 ∧ x.view1.getLsbD 16 = retire ∧
      x.view1.getLsbD 17 = (e.reply.bind ReplyCopy.effect).isSome ∧ x.view1.extractLsb' 18 14 = 0 := by
  unfold RosterEntry.snapshot presence
  simp (index := false) only [BitVec.extractLsb'_append_eq_of_le, BitVec.extractLsb'_append_eq_of_add_le, Nat.reduceAdd,
    Nat.reduceLeDiff, Nat.reduceSub, BitVec.extractLsb'_eq_self, BitVec.getLsbD_append, true_and, and_true]
  simp

/-- The reply copy's part of table ROSTER. -/
theorem replySnapshot_fields (retire : Bool) (e : RosterEntry) :
    let x := e.snapshot retire
    x.view2 = (e.reply.map fun c => c.notice.word.extractLsb' 32 32).getD 0 ∧
      x.view3.extractLsb' 16 16 = (e.reply.map fun c => c.notice.word.extractLsb' 16 16).getD 0 ∧
      x.view3.extractLsb' 0 16 = (e.reply.bind ReplyCopy.effect).getD 0 := by
  unfold RosterEntry.snapshot
  cases hr : e.reply with
  | none => simp
  | some c =>
    simp (index := false) only [BitVec.extractLsb'_append_eq_of_le, BitVec.extractLsb'_append_eq_of_add_le, Nat.reduceAdd,
      Nat.reduceLeDiff, Nat.reduceSub, BitVec.extractLsb'_eq_self]
    exact ⟨highBits_eq c.notice, lowBits_eq c.notice, rfl⟩

/-- A frame or a term shown in the low half of a word. -/
theorem zero_append_frame (x : BitVec 16) : 0#16 ++ x = x.setWidth 32 := by
  apply BitVec.eq_of_toNat_eq
  rw [BitVec.toNat_append, BitVec.toNat_setWidth, Nat.mod_eq_of_lt (Nat.lt_trans x.isLt (by decide))]
  simp

/-- Table REQUEST. -/
theorem requestSnapshot_fields (r : Request) :
    let x := r.snapshot
    x.view0.extractLsb' 0 5 = Trib.wire r.sender ∧ x.view0.extractLsb' 5 4 = r.message.code ∧
      x.view0.getLsbD 9 = r.seq ∧ x.view0.extractLsb' 10 8 = handleField r.message.handle ∧
      x.view0.extractLsb' 18 13 = 0 ∧ x.view0.getLsbD 31 = true ∧ x.view1.extractLsb' 30 2 = 0 ∧
      x.view1.extractLsb' 0 30 = r.message.arg ∧ x.view2 = r.arrival.setWidth 32 := by
  unfold Request.snapshot
  simp (index := false) only [BitVec.extractLsb'_append_eq_of_le, BitVec.extractLsb'_append_eq_of_add_le, Nat.reduceAdd,
    Nat.reduceLeDiff, Nat.reduceSub, BitVec.extractLsb'_eq_self, BitVec.getLsbD_append, true_and]
  simp [zero_append_frame]

/-- The argument of a REQUEST, rebuilt (10, R196). -/
theorem requestArg_fields (a : RequestArgs) :
    let g := (Message.request a).arg
    g.extractLsb' 27 3 = a.cls ∧ g.extractLsb' 25 2 = a.priority ∧ g.extractLsb' 9 16 = a.term ∧ g.getLsbD 8 = a.defer ∧
      g.extractLsb' 2 6 = a.preferred ∧ g.extractLsb' 0 2 = 0 := by
  unfold Message.arg
  simp (index := false) only [BitVec.extractLsb'_append_eq_of_le, BitVec.extractLsb'_append_eq_of_add_le, Nat.reduceAdd,
    Nat.reduceLeDiff, Nat.reduceSub, BitVec.extractLsb'_eq_self, BitVec.getLsbD_append, true_and, and_true]
  simp

/-- Table DEFERRED. -/
theorem deferredSnapshot_fields (d : Deferred) :
    let x := d.snapshot
    x.view0.extractLsb' 0 5 = Trib.wire d.sender ∧ x.view0.getLsbD 5 = d.seq ∧
      x.view0.extractLsb' 6 3 = LenClass.wire d.cls ∧ x.view0.extractLsb' 9 2 = d.priority ∧
      x.view0.extractLsb' 11 6 = d.preferred.getD 0 ∧ x.view0.extractLsb' 17 14 = 0 ∧ x.view0.getLsbD 31 = true ∧
      x.view1 = d.term.setWidth 32 ∧ x.view2.extractLsb' 0 16 = d.arrival ∧ x.view2.extractLsb' 16 16 = d.waitUntil := by
  unfold Deferred.snapshot
  simp (index := false) only [BitVec.extractLsb'_append_eq_of_le, BitVec.extractLsb'_append_eq_of_add_le, Nat.reduceAdd,
    Nat.reduceLeDiff, Nat.reduceSub, BitVec.extractLsb'_eq_self, BitVec.getLsbD_append, true_and, and_true]
  simp [zero_append_frame]

/-- Table NOTICE. -/
theorem noticeSnapshot_fields (q : QueuedNotice) :
    let x := q.snapshot
    x.view0.getLsbD 0 = q.link.isSome ∧ x.view0.getLsbD 1 = q.answer ∧ x.view0.getLsbD 2 = q.copy ∧
      x.view0.getLsbD 3 = q.link.isSome ∧ x.view0.extractLsb' 4 5 = indexField q.link ∧
      x.view0.getLsbD 9 = q.notice.handle.isSome ∧ x.view0.getLsbD 10 = q.effect.isSome ∧
      x.view0.extractLsb' 11 20 = 0 ∧ x.view0.getLsbD 31 = true ∧
      x.view2.extractLsb' 16 16 = q.notice.lowBits ∧ x.view2.extractLsb' 0 16 = q.effect.getD 0 := by
  unfold QueuedNotice.snapshot presence frameField
  simp (index := false) only [BitVec.extractLsb'_append_eq_of_le, BitVec.extractLsb'_append_eq_of_add_le, Nat.reduceAdd,
    Nat.reduceLeDiff, Nat.reduceSub, BitVec.extractLsb'_eq_self, BitVec.getLsbD_append, true_and, and_true]
  simp

/-! ### The record that a table and an index name (10, R195) -/

namespace State

variable (s : State) (n : BitVec 6)

theorem snapshotOf_noTable {table : BitVec 3} (h : 6 ≤ table.toNat) : s.snapshotOf table n = .empty := by
  unfold snapshotOf
  split
  case h_7 => rfl
  all_goals omega

theorem snapshotOf_lease {i : LeaseIdx} (h : i.val = n.toNat) : s.snapshotOf 0 n = (s.leases.get i).snapshot := by
  change ((s.leases.cells[n.toNat]?).map LeaseEntry.snapshot).getD .empty = _
  rw [← h, Table.get_eq_getElem?]
  rfl

theorem snapshotOf_noLease (h : 32 ≤ n.toNat) : s.snapshotOf 0 n = .empty := by
  change ((s.leases.cells[n.toNat]?).map LeaseEntry.snapshot).getD .empty = _
  rw [List.getElem?_eq_none (s.leases.size.trans_le h)]
  rfl

theorem snapshotOf_overhead (h : n.toNat < 10) : s.snapshotOf 1 n = ⟨0x8000000F, 0, 0, 0⟩ := by
  have hnone : s.slotAt n.toNat = none := if_pos h
  change ((s.slotAt n.toNat).map Slot.snapshot).getD overheadSnapshot = _
  rw [hnone]
  rfl

theorem snapshotOf_slot {y : Slot} (h : s.slotAt n.toNat = some y) : s.snapshotOf 1 n = y.snapshot := by
  change ((s.slotAt n.toNat).map Slot.snapshot).getD overheadSnapshot = _
  rw [h]
  rfl

theorem snapshotOf_noAddress (h : n.toNat = 0 ∨ 31 ≤ n.toNat) : s.snapshotOf 2 n = .empty :=
  dif_neg (by omega)

theorem snapshotOf_roster {a : Trib} (h : a.val + 1 = n.toNat) :
    s.snapshotOf 2 n = (s.entry a).snapshot (s.engine.retireFlags.get a) := by
  have hi : (⟨n.toNat - 1, by omega⟩ : Trib) = a := Fin.ext (by simp only; omega)
  refine (dif_pos (by omega)).trans ?_
  simp only [hi]
  rfl

theorem snapshotOf_request {r : Request} (h : s.requests[n.toNat]? = some r) : s.snapshotOf 3 n = r.snapshot := by
  change ((s.requests[n.toNat]?).map Request.snapshot).getD .empty = _
  rw [h]
  rfl

theorem snapshotOf_noRequest (h : s.requests.length ≤ n.toNat) : s.snapshotOf 3 n = .empty := by
  change ((s.requests[n.toNat]?).map Request.snapshot).getD .empty = _
  rw [List.getElem?_eq_none h]
  rfl

theorem snapshotOf_deferred {d : Deferred} (h : s.deferred[n.toNat]? = some d) : s.snapshotOf 4 n = d.snapshot := by
  change ((s.deferred[n.toNat]?).map Deferred.snapshot).getD .empty = _
  rw [h]
  rfl

theorem snapshotOf_noDeferred (h : s.deferred.length ≤ n.toNat) : s.snapshotOf 4 n = .empty := by
  change ((s.deferred[n.toNat]?).map Deferred.snapshot).getD .empty = _
  rw [List.getElem?_eq_none h]
  rfl

theorem snapshotOf_notice {q : QueuedNotice} (h : s.notices[n.toNat]? = some q) : s.snapshotOf 5 n = q.snapshot := by
  change ((s.notices[n.toNat]?).map QueuedNotice.snapshot).getD .empty = _
  rw [h]
  rfl

theorem snapshotOf_noNotice (h : s.notices.length ≤ n.toNat) : s.snapshotOf 5 n = .empty := by
  change ((s.notices[n.toNat]?).map QueuedNotice.snapshot).getD .empty = _
  rw [List.getElem?_eq_none h]
  rfl

end State

/-- The wire form of a class is its number (03, R60). -/
theorem toNat_classWire (c : LenClass) : (LenClass.wire c).toNat = c.val := by
  rw [LenClass.wire, BitVec.toNat_ofNat, Nat.mod_eq_of_lt (by omega)]

theorem toNat_holderWire (o : Option Trib) : (holderWire o).toNat = (o.map fun a => a.val + 1).getD 0 := by
  cases o with
  | none => rfl
  | some a => exact toNat_tribWire a

/-- VIEW_SELECT after a write that the port receives (10, R195). -/
theorem viewSelectWord_fields {w : PortWrite} {s : State} :
    (s.viewSelectWord w).extractLsb' 0 3 =
      (if 0 < w.count.toNat then (w.data.getD 0 0).extractLsb' 0 3 else s.port.viewSelect.extractLsb' 0 3) ∧
    (s.viewSelectWord w).extractLsb' 8 6 =
      (if 1 < w.count.toNat then (w.data.getD 1 0).extractLsb' 0 6 else s.port.viewSelect.extractLsb' 8 6) ∧
    s.viewSelectWord w &&& 0x3F07 = s.viewSelectWord w := by
  have htable := w.extract_merge_field s.port.viewSelect (k := 0) (n := 3) (by decide) (by decide)
  have hindex := w.extract_merge_field s.port.viewSelect (k := 1) (n := 6) (by decide) (by decide)
  rw [BitVec.setWidth_eq_extractLsb' (by decide)] at htable hindex
  unfold viewSelectWord
  refine ⟨?_, ?_, ?_⟩
  · rw [extract_and_mask _ _ (by decide)]
    exact htable
  · rw [extract_and_mask _ _ (by decide)]
    exact hindex
  · rw [BitVec.and_assoc, BitVec.and_self]

/-- Settles O10: VIEW_SELECT as held and the snapshot taken, and the layout of each table. -/
theorem viewSelectTakesSnapshot : Obligations.ViewSelectTakesSnapshot := by
  refine ⟨fun w s h => ?select, fun s n => ?tables, rfl, rfl, rfl, rfl⟩
  case select =>
    have hport : (s.phaseKept 0x30 w.count).finishEvents.port.viewSelect = s.port.viewSelect := by
      rw [port_finishEvents]
      rfl
    obtain ⟨htable, hindex, hmask⟩ := viewSelectWord_fields (w := w) (s := (s.phaseKept 0x30 w.count).finishEvents)
    rw [if_pos (count_pos_of_receives h)] at htable
    rw [hport] at hindex
    exact ⟨_, htable, hindex, hmask, congrArg Host.Outcome.next (portWrite_receives (r := .viewSelect) rfl h)⟩
  case tables =>
    refine ⟨fun table h => snapshotOf_noTable s n h, snapshotOf_noLease s n, fun i hi => ?lease, snapshotOf_overhead s n,
      fun y hy => ?slot, snapshotOf_noAddress s n, fun a ha => ?roster, snapshotOf_noRequest s n, fun r hr => ?request,
      snapshotOf_noDeferred s n, fun d hd => ?deferred, snapshotOf_noNotice s n, fun q hq => ?notice⟩
    case lease =>
      rw [snapshotOf_lease s n hi]
      refine ⟨fun hl => freeSnapshot_fields hl, fun l hl => ?_⟩
      obtain ⟨f1, f2, f3, f4, f5, f6, f7, f8, f9, f10, f11, f12, f13, f14, f15, f16, f17, f18, f19, f20, f21⟩ :=
        leaseSnapshot_fields hl
      obtain ⟨m1, m2, m3, m4⟩ := moveSnapshot_fields hl
      exact ⟨f1, by rw [f2, toNat_holderWire], f3, by rw [f4]; rfl, by rw [f5, toNat_classWire], f6, f7, f8, f9, f10, f11, f12,
        f13, f14, f15, f16, f17, f18.trans m4, f19, f20, f21, m1, m2, m3⟩
    case slot =>
      rw [snapshotOf_slot s n hy]
      obtain ⟨f1, f2, f3, f4, f5, f6, f7, f8, f9, f10, f11, f12, f13, f14, f15, f16⟩ := slotSnapshot_fields y
      refine ⟨f1.trans (slotState_code y), f2, f3, by rw [f4, toNat_indexField], f5, ?_, f7, f8, f9, f10, f11, f12, f13, f14,
        f15, f16, rfl⟩
      rw [f6, toNat_indexField, Option.map_map]
      rfl
    case roster =>
      rw [snapshotOf_roster s n ha]
      obtain ⟨f1, f2, f3, f4, f5, f6, f7, f8, f9, f10, f11, f12, f13⟩ :=
        rosterSnapshot_fields (s.engine.retireFlags.get a) (s.entry a)
      obtain ⟨r1, r2, r3⟩ := replySnapshot_fields (s.engine.retireFlags.get a) (s.entry a)
      refine ⟨f1, f2, f3.trans ?_, f4, f5, f6, f7, f8, f9, f10, f11, f12, f13, r1, r2, r3⟩
      rcases (s.entry a).lastSeq with _ | _ | _
      · rfl
      · rfl
      · rfl
    case request =>
      rw [snapshotOf_request s n hr]
      obtain ⟨f1, f2, f3, f4, f5, f6, f7, f8, f9⟩ := requestSnapshot_fields r
      have hargs : ∀ {k w}, k + w ≤ 30 → r.snapshot.view1.extractLsb' k w = r.message.arg.extractLsb' k w := fun {k w} hkw => by
        rw [← f8, extract_extract _ hkw, Nat.zero_add]
      refine ⟨by rw [f1, toNat_tribWire], f2.trans ?code, f3, f4.trans ?handle, f5, f6, f7, fun a hm => ?args,
        fun k added hm => ?added, fun hm hm' => ?noArgs, f9, rfl⟩
      case code => cases r.message <;> rfl
      case handle => cases r.message <;> rfl
      case args =>
        obtain ⟨a1, a2, a3, a4, a5, a6⟩ := requestArg_fields a
        rw [← hm] at a1 a2 a3 a4 a5 a6
        have hbit : r.snapshot.view1.getLsbD 8 = r.message.arg.getLsbD 8 := by
          rw [← f8, BitVec.getLsbD_extractLsb']
          rfl
        exact ⟨(hargs (by decide)).trans a1, (hargs (by decide)).trans a2, (hargs (by decide)).trans a3, hbit.trans a4,
          (hargs (by decide)).trans a5, (hargs (by decide)).trans a6⟩
      case added =>
        have harg : r.message.arg = added ++ (0 : BitVec 14) := by
          rw [hm]
          rfl
        rw [hargs (by decide), hargs (by decide), harg]
        simp (index := false) only [BitVec.extractLsb'_append_eq_of_le, BitVec.extractLsb'_append_eq_of_add_le, Nat.reduceAdd,
          Nat.reduceLeDiff, Nat.reduceSub, BitVec.extractLsb'_eq_self, and_self]
      case noArgs =>
        have harg : r.message.arg = 0 := by
          cases hmsg : r.message with
          | request a => exact absurd hmsg (hm a)
          | renew k added => exact absurd hmsg (hm' k added)
          | withdraw => rfl
          | release k => rfl
          | query k => rfl
          | leave => rfl
        change (0 : BitVec 2) ++ r.message.arg = 0
        rw [harg]
        rfl
    case deferred =>
      rw [snapshotOf_deferred s n hd]
      obtain ⟨f1, f2, f3, f4, f5, f6, f7, f8, f9, f10⟩ := deferredSnapshot_fields d
      exact ⟨by rw [f1, toNat_tribWire], f2, by rw [f3, toNat_classWire], f4, f5, f6, f7, f8, f9, f10, rfl⟩
    case notice =>
      rw [snapshotOf_notice s n hq]
      obtain ⟨f1, f2, f3, f4, f5, f6, f7, f8, f9, f10, f11⟩ := noticeSnapshot_fields q
      exact ⟨f1, f2, f3, f4, by rw [f5, toNat_indexField], f6, f7, f8, f9, highBits_eq q.notice,
        f10.trans (lowBits_eq q.notice), f11, rfl⟩

end Sys2Proof.Machine
end

section
/-!
PROOFS. The until writes of a frame start (01, R10; 02, R36).
-/
namespace Sys2Proof.Machine

open State

variable {s : State}

namespace Slot

/-- The untils written on a record: `written` gives, for a lease, the owner's until and the incoming entry's. -/
def untilsWritten (written : LeaseIdx → Option (Option Frame × Option Frame)) (x : Slot) : Slot :=
  { x with
    ownerUntil := match x.owner.bind written with
      | some w => w.1
      | none => x.ownerUntil
    incoming := x.incoming.map fun n => match written n.lease with
      | some w => { n with untilFrame := w.2 }
      | none => n }

theorem untilsWritten_none (x : Slot) : x.untilsWritten (fun _ => none) = x := by
  obtain ⟨owner, ownerUntil, incoming, guardUntil, quarantine⟩ := x
  cases owner <;> cases incoming <;> rfl

/-- The untils of one lease, and then those of others. -/
theorem untilsWritten_writeUntil {written : LeaseIdx → Option (Option Frame × Option Frame)} {i : LeaseIdx}
    {a b : Option Frame} (hi : written i = some (a, b) ∨ written i = none) (x : Slot) :
    (x.writeUntil i a b).untilsWritten written = x.untilsWritten fun j => if j = i then some (a, b) else written j := by
  rw [writeUntil_eq]
  obtain ⟨owner, ownerUntil, incoming, guardUntil, quarantine⟩ := x
  unfold untilsWritten
  refine congrArg₂ (fun o n => (⟨owner, o, n, guardUntil, quarantine⟩ : Slot)) ?owner ?incoming
  case owner =>
    cases owner with
    | none => rfl
    | some o =>
      by_cases ho : o = i
      · subst ho
        rcases hi with hi | hi <;> simp [hi]
      · simp [ho]
  case incoming =>
    cases incoming with
    | none => rfl
    | some n =>
      by_cases hn : n.lease = i
      · rcases hi with hi | hi <;> simp [hn, hi]
      · simp [hn]

end Slot

namespace State

/-- The untils that the frame start writes for a lease whose end frame comes within range (01, R10). -/
def untilsOf (s : State) (i : LeaseIdx) : Option (Option Frame × Option Frame) :=
  match s.leaseAt i with
  | some l => match l.endFrame with
    | some e => if (e - s.counter).toNat = 32767 then
        some (l.ownerWord s.counter s.settings.d, l.untilWord s.counter) else none
    | none => none
  | none => none

theorem untilInRange_eq (s : State) (i : LeaseIdx) : s.untilInRange i = match s.untilsOf i with
    | some w => s.mapSlots fun _ => Slot.writeUntil i w.1 w.2
    | none => s := by
  unfold untilInRange untilsOf
  cases hl : s.leaseAt i with
  | none => rfl
  | some l =>
    cases he : l.endFrame with
    | none => simp only [he]
    | some e =>
      by_cases h : (e - s.counter).toNat = 32767
      · simp only [he, if_pos h]
        exact (if_pos h).trans (writeUntils_eq hl)
      · simp only [he, if_neg h]
        exact if_neg h

/-- The until writes of several leases write the slot map alone. -/
theorem foldl_untilInRange (ls : List LeaseIdx) (s : State) : ∃ v, ls.foldl untilInRange s = s.setSlots v ∧
    ∀ p, (s.setSlots v).slotAt p = (s.slotAt p).map (Slot.untilsWritten fun i => if i ∈ ls then s.untilsOf i else none) := by
  induction ls generalizing s with
  | nil =>
    refine ⟨s.slots, rfl, fun p => ?_⟩
    simp only [List.not_mem_nil, if_false, funext Slot.untilsWritten_none]
    exact Option.map_id'.symm
  | cons i ls ih =>
    rw [List.foldl_cons, untilInRange_eq]
    cases hi : s.untilsOf i with
    | none =>
      obtain ⟨v, hv, hslot⟩ := ih s
      refine ⟨v, hv, fun p => (hslot p).trans ?_⟩
      refine congrArg (fun w => (s.slotAt p).map (Slot.untilsWritten w)) (funext fun j => ?_)
      by_cases hj : j = i
      · simp [hj, hi]
      · simp [hj]
    | some w =>
      obtain ⟨v, hv, hslot⟩ := ih (s.mapSlots fun _ => Slot.writeUntil i w.1 w.2)
      refine ⟨v, hv, fun p => (hslot p).trans ?_⟩
      rw [slotAt_mapSlots, Option.map_map]
      refine congrArg (fun f => (s.slotAt p).map f) (funext fun x => ?_)
      refine (Slot.untilsWritten_writeUntil ?_ x).trans (congrArg (Slot.untilsWritten · x) (funext fun j => ?_))
      · change (if i ∈ ls then s.untilsOf i else none) = _ ∨ (if i ∈ ls then s.untilsOf i else none) = none
        by_cases hmem : i ∈ ls
        · exact .inl ((if_pos hmem).trans hi)
        · exact .inr (if_neg hmem)
      · change (if j = i then some w else if j ∈ ls then s.untilsOf j else none) = _
        by_cases hj : j = i
        · simp [hj, hi]
        · simp [hj]

/-- The until writes of a frame start (01, R10). -/
theorem untilsStep_form (s : State) : ∃ v, s.untilsStep = s.setSlots v ∧
    ∀ p, (s.setSlots v).slotAt p = (s.slotAt p).map (Slot.untilsWritten s.untilsOf) := by
  obtain ⟨v, hv, hslot⟩ := foldl_untilInRange allLeases s
  refine ⟨v, hv, fun p => (hslot p).trans ?_⟩
  simp only [show ∀ i : LeaseIdx, i ∈ allLeases from List.mem_finRange, if_true]

end State

/-- Settles O23: the untils written at a frame start. -/
theorem untilsAreWrittenInRange : Obligations.UntilsAreWrittenInRange := by
  intro s hdue
  obtain ⟨v, hv, hslot⟩ := untilsStep_form (s.setDue { s.due with untils := false })
  have hexec : exec .untilWriteInRange s = .next ((s.setDue { s.due with untils := false }).setSlots v) :=
    congrArg Host.Outcome.next ((if_pos hdue).trans hv)
  refine ⟨_, hexec, rfl, ?_⟩
  intro falls p x hx
  have hnone : ∀ {i}, falls i = none → s.untilsOf i = none := fun {i} h => by
    unfold untilsOf
    dsimp only [falls] at h
    cases hl : s.leaseAt i with
    | none => rfl
    | some l =>
      cases he : l.endFrame with
      | none => simp only [he]
      | some e =>
        simp only [hl, he] at h ⊢
        split at h
        · exact absurd h (by simp)
        · next hr => exact if_neg hr
  have hsome : ∀ {i l e}, falls i = some (l, e) → s.untilsOf i = some (l.ownerWord s.counter s.settings.d, some e) ∧
      l.endFrame = some e ∧ l.untilWord s.counter = some e := fun {i l e} h => by
    dsimp only [falls] at h
    split at h
    · next l' hl =>
      split at h
      · next e' he =>
        split at h
        · next hr =>
          obtain ⟨rfl, rfl⟩ := Prod.mk.inj (Option.some.inj h)
          have hword : l'.untilWord s.counter = some e' := by
            rw [Lease.untilWord, he]
            exact if_pos (by rw [hr]; rfl)
          refine ⟨?_, he, hword⟩
          unfold untilsOf
          simp only [hl, he, if_pos hr, hword]
        · exact absurd h (by simp)
      · exact absurd h (by simp)
    · exact absurd h (by simp)
  refine ⟨_, (hslot p).trans (congrArg (Option.map _) hx), rfl, rfl, rfl, fun ho => ?free, fun i ho hi => ?kept,
    fun i l e ho hi hm => ?ended, fun i l e m f st ho hi hm hst => ?moved, ?incoming⟩
  case incoming =>
    refine congrArg (fun g => x.incoming.map g) (funext fun n => ?_)
    change (match s.untilsOf n.lease with
      | some w => ({ n with untilFrame := w.2 } : Incoming)
      | none => n) = _
    cases hf : falls n.lease with
    | none => rw [hnone hf]
    | some w => rw [(hsome hf).1]
  all_goals
    change (match x.owner.bind s.untilsOf with
      | some w => w.1
      | none => x.ownerUntil) = _
    rw [ho]
  case free => rfl
  case kept => rw [Option.bind_some, hnone hi]
  case ended =>
    obtain ⟨hof, he, hword⟩ := hsome hi
    rw [Option.bind_some, hof]
    exact (ownerWord_of_unsent _ _ hm).trans hword
  case moved =>
    obtain ⟨hof, he, hword⟩ := hsome hi
    rw [Option.bind_some, hof]
    refine (ownerWord_eq hst he _ _).trans ?_
    rw [hm, hword]
    exact (apply_ite some _ _ _).symm

end Sys2Proof.Machine
end

section
/-!
PROOFS. The gone-live reports of a frame start (02, R32, R33; 01, R14, R17; 05, R111).
-/
namespace Sys2Proof.Machine

open State

namespace State

variable {s u v : State}

/-! ### The slot map by position -/

theorem cells_getElem? (s : State) (k : Nat) : s.slots.cells[k]? = s.slotAt (k + 10) := by
  rw [slotAt, if_neg (by simp [Config.firstLeasable])]
  rfl

theorem mem_cells_iff (s : State) (x : Slot) : x ∈ s.slots.cells ↔ ∃ p, s.slotAt p = some x := by
  constructor
  · intro h
    obtain ⟨k, hk⟩ := List.mem_iff_getElem?.mp h
    exact ⟨k + 10, (cells_getElem? s k).symm.trans hk⟩
  · rintro ⟨p, hp⟩
    unfold slotAt at hp
    split at hp
    · exact absurd hp (by simp)
    · exact List.mem_of_getElem? hp

/-- The records before and after a change position by position. -/
theorem mem_zip_mapSlots (s : State) (f : Nat → Slot → Slot) (x y : Slot) :
    (x, y) ∈ s.slots.cells.zip (s.mapSlots f).slots.cells ↔ ∃ p, s.slotAt p = some x ∧ y = f p x := by
  rw [List.mem_iff_getElem?]
  constructor
  · rintro ⟨k, hk⟩
    obtain ⟨hx, hy⟩ := List.getElem?_zip_eq_some.mp hk
    rw [cells_getElem?] at hx hy
    rw [slotAt_mapSlots, hx] at hy
    exact ⟨k + 10, hx, (Option.some.inj hy).symm⟩
  · rintro ⟨p, hx, rfl⟩
    have hp : ¬ p < Config.firstLeasable := fun h => by
      rw [slotAt, if_pos h] at hx
      exact absurd hx (by simp)
    have hp' : p - 10 + 10 = p := Nat.sub_add_cancel (Nat.le_of_not_lt hp)
    refine ⟨p - 10, List.getElem?_zip_eq_some.mpr ⟨?_, ?_⟩⟩
    · rw [cells_getElem?, hp', hx]
    · rw [cells_getElem?, hp', slotAt_mapSlots, hx]
      rfl

/-- The leases that a change of the slot map makes owners. -/
theorem mem_ownersGained (s : State) (f : Nat → Slot → Slot) (i : LeaseIdx) :
    i ∈ ownersGained s.slots (s.mapSlots f).slots ↔
      ∃ p x, s.slotAt p = some x ∧ x.owner = none ∧ (f p x).owner = some i := by
  unfold ownersGained
  rw [List.mem_filterMap]
  constructor
  · rintro ⟨⟨x, y⟩, hmem, hi⟩
    obtain ⟨p, hx, rfl⟩ := (mem_zip_mapSlots s f x y).mp hmem
    by_cases ho : x.owner = none
    · exact ⟨p, x, hx, ho, by simpa [ho] using hi⟩
    · exact absurd hi (by simp [ho])
  · rintro ⟨p, x, hx, ho, hi⟩
    exact ⟨(x, f p x), (mem_zip_mapSlots s f x _).mpr ⟨p, hx, rfl⟩, by simp [ho, hi]⟩

/-- The leases that a change of the slot map takes an owner's place from. -/
theorem mem_ownersLost (s : State) (f : Nat → Slot → Slot) (i : LeaseIdx) :
    i ∈ ownersLost s.slots (s.mapSlots f).slots ↔
      ∃ p x, s.slotAt p = some x ∧ x.owner = some i ∧ (f p x).owner = none := by
  unfold ownersLost
  rw [List.mem_filterMap]
  constructor
  · rintro ⟨⟨x, y⟩, hmem, hi⟩
    obtain ⟨p, hx, rfl⟩ := (mem_zip_mapSlots s f x y).mp hmem
    by_cases ho : (f p x).owner = none
    · exact ⟨p, x, hx, by simpa [ho] using hi, ho⟩
    · exact absurd hi (by simp [ho])
  · rintro ⟨p, x, hx, hi, ho⟩
    exact ⟨(x, f p x), (mem_zip_mapSlots s f x _).mpr ⟨p, hx, rfl⟩, by simp [ho, hi]⟩

/-- Which runs a lease owns depends on the owners alone (02, R33). -/
theorem ownsRun_congr {f : Slot → Slot} (hf : ∀ x, (f x).owner = x.owner)
    (h : ∀ p, u.slotAt p = (s.slotAt p).map f) (i : LeaseIdx) (start : Pos) (c : LenClass) :
    u.ownsRun i start c = s.ownsRun i start c := by
  have howners : u.slots.cells.map Slot.owner = s.slots.cells.map Slot.owner := by
    refine List.ext_getElem? fun k => ?_
    rw [List.getElem?_map, List.getElem?_map, cells_getElem?, cells_getElem?, h, Option.map_map]
    exact congrArg (fun g => (s.slotAt (k + 10)).map g) (funext hf)
  have hall : ∀ w : State, w.ownsRun i start c =
      (((w.slots.cells.map Slot.owner).drop (start.val - Config.firstLeasable)).take (runLength c)).all
        fun o => decide (o = some i) := fun w => by
    rw [← List.map_drop, ← List.map_take, List.all_map]
    rfl
  rw [hall, hall, howners]

/-! ### A gone-live report, said once (01, R14, R17) -/

/-- The move of a lease whose whole target is owned (02, R33). -/
def arrival (s : State) (i : LeaseIdx) (l : Lease) : Option Move := l.move.filter fun m => s.ownsRun i m.target l.cls

/-- The lease in entry `i` after its gone-live report: the move arrived, or the run is live (01, R14, R17). -/
def wentLive (s : State) (i : LeaseIdx) (l : Lease) : Lease :=
  match s.arrival i l with
  | some m => { l with start := m.target, move := none }
  | none => if s.ownsRun i l.start l.cls then l.live else l

/-- The untils that the gone-live report of entry `i` writes (01, R10). -/
def liveUntils (s : State) (i : LeaseIdx) : Option (Option Frame × Option Frame) :=
  match s.leaseAt i with
  | some l =>
    match s.arrival i l with
    | some _ => none
    | none => if s.ownsRun i l.start l.cls then
        some (l.live.ownerWord s.counter s.settings.d, l.live.untilWord s.counter) else none
  | none => none

theorem reportLive_eq {i : LeaseIdx} {l : Lease} (hl : s.leaseAt i = some l) :
    s.reportLive i = match s.arrival i l with
      | some m => s.moveArrived i l m.target
      | none => if s.ownsRun i l.start l.cls then s.leaseLive i l else s := by
  unfold reportLive arrival
  simp only [hl]
  cases hm : l.move with
  | none => rfl
  | some m =>
    by_cases ho : s.ownsRun i m.target l.cls = true
    · simp [ho, Option.filter]
    · simp [ho, Option.filter]

/-- What the gone-live reports of the entries `ls` make of every record (02, R33; 05, R111). -/
structure LiveReported (ls : List LeaseIdx) (s u : State) : Prop where
  leases : ∀ i, u.leases.get i = if i ∈ ls
    then { s.leases.get i with lease := (s.leaseAt i).map (s.wentLive i) } else s.leases.get i
  slotAt : ∀ p, u.slotAt p = (s.slotAt p).map (Slot.untilsWritten fun i => if i ∈ ls then s.liveUntils i else none)
  arrived : ∀ i l m, i ∈ ls → s.leaseAt i = some l → s.arrival i l = some m →
    s.worker.underMove = some (s.handleOf i) →
    u.worker = ⟨.active .step, m.target.val, none, min 255 (s.worker.moves + 1)⟩ ∧ u.engine.stepReady = true
  other : (∀ i l m, i ∈ ls → s.leaseAt i = some l → s.arrival i l = some m →
    s.worker.underMove ≠ some (s.handleOf i)) → u.worker = s.worker ∧ u.engine.stepReady = s.engine.stepReady
  engine : u.engine = { s.engine with stepReady := u.engine.stepReady }
  roster : u.roster = s.roster
  notices : u.notices = s.notices
  untouched : Untouched s u

theorem untilsWritten_nothing (o : Option Slot) : o.map (Slot.untilsWritten fun _ => none) = o := by
  rw [show Slot.untilsWritten (fun _ => none) = id from funext Slot.untilsWritten_none, Option.map_id, id]

theorem liveReported_nil : LiveReported [] s s where
  leases _ := rfl
  slotAt p := (untilsWritten_nothing _).symm
  arrived _ _ _ h := absurd h (by simp)
  other _ := ⟨rfl, rfl⟩
  engine := rfl
  roster := rfl
  notices := rfl
  untouched := ⟨rfl, rfl, rfl, rfl, rfl, rfl, rfl, rfl, rfl, rfl, rfl, rfl, rfl⟩

/-- A report that finds nothing gone live. -/
theorem liveReported_same {i : LeaseIdx} (hl : (s.leaseAt i).map (s.wentLive i) = s.leaseAt i)
    (hw : s.liveUntils i = none) (ha : ∀ l, s.leaseAt i = some l → s.arrival i l = none) : LiveReported [i] s s where
  leases j := by
    by_cases hj : j = i
    · subst hj
      rw [if_pos (List.mem_singleton_self j), hl]
      rfl
    · rw [if_neg (by simpa using hj)]
  slotAt p := by
    have hnone : (fun j => if j ∈ [i] then s.liveUntils j else none) = fun _ => none := funext fun j => by
      by_cases hj : j = i
      · rw [hj, hw, ite_self]
      · exact if_neg (by simpa using hj)
    rw [hnone, untilsWritten_nothing]
  arrived j l m hj hlj hm := by
    obtain rfl := List.mem_singleton.mp hj
    exact absurd hm (by simp [ha l hlj])
  other _ := ⟨rfl, rfl⟩
  engine := rfl
  roster := rfl
  notices := rfl
  untouched := ⟨rfl, rfl, rfl, rfl, rfl, rfl, rfl, rfl, rfl, rfl, rfl, rfl, rfl⟩

/-- The entries of the lease table where the lease of one is replaced. -/
theorem get_setLease (s : State) (i j : LeaseIdx) (l : Lease) : (s.setLease i l).leases.get j =
    if j ∈ [i] then { s.leases.get j with lease := some l } else s.leases.get j := by
  by_cases hj : j = i
  · subst hj
    rw [if_pos (List.mem_singleton_self j)]
    exact Table.get_set_eq ..
  · rw [if_neg (by simpa using hj)]
    exact Table.get_set_ne _ _ hj

/-- The report of a move that arrived (01, R14; 05, R111). -/
theorem liveReported_arrived {i : LeaseIdx} {l : Lease} {m : Move} (hl : s.leaseAt i = some l)
    (hm : s.arrival i l = some m) : LiveReported [i] s (s.moveArrived i l m.target) := by
  have hwent : s.wentLive i l = { l with start := m.target, move := none } := by rw [wentLive, hm]
  have huntils : s.liveUntils i = none := by
    unfold liveUntils
    simp only [hl, hm]
  unfold moveArrived
  rw [completeMove_form]
  refine ⟨fun j => ?leases, fun p => ?slots, fun j k n hj hk hn hu => ?arrived, fun hno => ?other, rfl, rfl, rfl,
    ⟨rfl, rfl, rfl, rfl, rfl, rfl, rfl, rfl, rfl, rfl, rfl, rfl, rfl⟩⟩
  case leases =>
    refine (get_setLease s i j _).trans (ite_congr rfl (fun hj => ?_) fun _ => rfl)
    obtain rfl := List.mem_singleton.mp hj
    rw [hl, Option.map_some, hwent]
  case slots =>
    have hnone : (fun j => if j ∈ [i] then s.liveUntils j else none) = fun _ => none := funext fun j => by
      by_cases hj : j = i
      · rw [hj, huntils, ite_self]
      · exact if_neg (by simpa using hj)
    rw [hnone, untilsWritten_nothing]
    rfl
  case arrived =>
    obtain rfl := List.mem_singleton.mp hj
    obtain rfl := Option.some.inj (hl.symm.trans hk)
    obtain rfl := Option.some.inj (hm.symm.trans hn)
    exact ⟨if_pos hu, if_pos hu⟩
  case other =>
    have hu := hno i l m (List.mem_singleton_self i) hl hm
    exact ⟨if_neg hu, if_neg hu⟩

/-- The report of a run that is live (01, R10, R17). -/
theorem liveReported_live {i : LeaseIdx} {l : Lease} (hl : s.leaseAt i = some l) (hm : s.arrival i l = none)
    (ho : s.ownsRun i l.start l.cls = true) : LiveReported [i] s (s.leaseLive i l) := by
  have hwent : s.wentLive i l = l.live := by rw [wentLive, hm, if_pos ho]
  have huntils : s.liveUntils i = some (l.live.ownerWord s.counter s.settings.d, l.live.untilWord s.counter) := by
    unfold liveUntils
    simp only [hl, hm, ho, if_true]
  unfold leaseLive
  rw [writeUntils_eq (leaseAt_setLease_self ..)]
  refine ⟨fun j => ?leases, fun p => ?slots, fun j k n hj hk hn => ?arrived, fun _ => ⟨rfl, rfl⟩, rfl, rfl, rfl,
    ⟨rfl, rfl, rfl, rfl, rfl, rfl, rfl, rfl, rfl, rfl, rfl, rfl, rfl⟩⟩
  case leases =>
    refine (get_setLease s i j _).trans (ite_congr rfl (fun hj => ?_) fun _ => rfl)
    obtain rfl := List.mem_singleton.mp hj
    rw [hl, Option.map_some, hwent]
  case slots =>
    refine (slotAt_mapSlots ..).trans (congrArg (fun f => (s.slotAt p).map f) (funext fun x => ?_))
    have h := Slot.untilsWritten_writeUntil (written := fun _ => none) (i := i)
      (a := l.live.ownerWord s.counter s.settings.d) (b := l.live.untilWord s.counter) (.inr rfl) x
    rw [Slot.untilsWritten_none] at h
    refine h.trans (congrArg (Slot.untilsWritten · x) (funext fun j => ?_))
    by_cases hj : j = i
    · subst hj
      rw [if_pos rfl, if_pos (List.mem_singleton_self j), huntils]
    · rw [if_neg hj, if_neg (by simpa using hj)]
  case arrived =>
    obtain rfl := List.mem_singleton.mp hj
    obtain rfl := Option.some.inj (hl.symm.trans hk)
    exact absurd (hm.symm.trans hn) (by simp)

/-- The gone-live report of one entry. -/
theorem liveReported_reportLive (s : State) (i : LeaseIdx) : LiveReported [i] s (s.reportLive i) := by
  cases hl : s.leaseAt i with
  | none =>
    have hsame : s.reportLive i = s := by
      unfold reportLive
      rw [hl]
    rw [hsame]
    refine liveReported_same (by rw [hl]; rfl) ?_ fun l hl' => absurd (hl.symm.trans hl') (by simp)
    unfold liveUntils
    rw [hl]
  | some l =>
    rw [reportLive_eq hl]
    cases hm : s.arrival i l with
    | some m => exact liveReported_arrived hl hm
    | none =>
      by_cases ho : s.ownsRun i l.start l.cls = true
      · simp only [if_pos ho]
        exact liveReported_live hl hm ho
      · simp only [if_neg ho]
        refine liveReported_same ?_ ?_ fun l' hl' => ?_
        · rw [hl, Option.map_some, wentLive, hm]
          exact congrArg some (if_neg ho)
        · unfold liveUntils
          simp only [hl, hm, if_neg ho]
        · obtain rfl := Option.some.inj (hl.symm.trans hl')
          exact hm

/-- Untils written in two turns. -/
theorem untilsWritten_untilsWritten (w w' : LeaseIdx → Option (Option Frame × Option Frame)) (x : Slot) :
    (x.untilsWritten w).untilsWritten w' = x.untilsWritten fun i => (w' i).or (w i) := by
  obtain ⟨owner, ownerUntil, incoming, guardUntil, quarantine⟩ := x
  unfold Slot.untilsWritten
  refine congrArg₂ (fun o n => (⟨owner, o, n, guardUntil, quarantine⟩ : Slot)) ?owner ?incoming
  case owner =>
    cases owner with
    | none => rfl
    | some o => cases h : w' o <;> simp [h]
  case incoming =>
    rw [Option.map_map]
    refine congrArg (fun f => incoming.map f) (funext fun n => ?_)
    cases h : w n.lease <;> cases h' : w' n.lease <;> simp [h, h']

/-- Which runs a lease owns, after gone-live reports (02, R33). -/
theorem LiveReported.ownsRun {ls : List LeaseIdx} (hv : LiveReported ls s v) (i : LeaseIdx) (start : Pos) (c : LenClass) :
    v.ownsRun i start c = s.ownsRun i start c :=
  ownsRun_congr (f := Slot.untilsWritten _) (fun _ => rfl) hv.slotAt i start c

theorem LiveReported.arrival {ls : List LeaseIdx} (hv : LiveReported ls s v) : v.arrival = s.arrival := by
  funext i l
  unfold State.arrival
  simp only [hv.ownsRun]

theorem LiveReported.wentLive {ls : List LeaseIdx} (hv : LiveReported ls s v) : v.wentLive = s.wentLive := by
  funext i l
  unfold State.wentLive
  simp only [hv.ownsRun, hv.arrival]

theorem LiveReported.get_of_not_mem {ls : List LeaseIdx} (hv : LiveReported ls s v) {j : LeaseIdx} (hj : j ∉ ls) :
    v.leases.get j = s.leases.get j := (hv.leases j).trans (if_neg hj)

theorem LiveReported.liveUntils {ls : List LeaseIdx} (hv : LiveReported ls s v) {j : LeaseIdx} (hj : j ∉ ls) :
    v.liveUntils j = s.liveUntils j := by
  have hlease : v.leaseAt j = s.leaseAt j := congrArg LeaseEntry.lease (hv.get_of_not_mem hj)
  have hcounter : v.counter = s.counter := congrArg FrameGen.counter hv.untouched.fg
  unfold State.liveUntils
  simp only [hlease, hv.arrival, hv.ownsRun, hcounter, hv.untouched.settings]

/-- The report of one entry before those of others. -/
theorem liveReported_cons {i : LeaseIdx} {ls : List LeaseIdx} (hi : i ∉ ls) (hv : LiveReported [i] s v)
    (hu : LiveReported ls v u) : LiveReported (i :: ls) s u := by
  have hne : ∀ {j}, j ∈ ls → j ∉ [i] := fun {j} hj h => hi (List.mem_singleton.mp h ▸ hj)
  have hget : ∀ {j}, j ∈ ls → v.leases.get j = s.leases.get j := fun hj => hv.get_of_not_mem (hne hj)
  have hlease : ∀ {j}, j ∈ ls → v.leaseAt j = s.leaseAt j := fun hj => congrArg LeaseEntry.lease (hget hj)
  have hhandle : ∀ {j}, j ∈ ls → v.handleOf j = s.handleOf j := fun {j} hj =>
    congrArg (fun e : LeaseEntry => Handle.mk j e.generation) (hget hj)
  refine ⟨fun j => ?leases, fun p => ?slots, fun j l m hj hl hm hw => ?arrived, fun hno => ?other, ?engine,
    hu.roster.trans hv.roster, hu.notices.trans hv.notices, hv.untouched.trans hu.untouched⟩
  case leases =>
    rw [hu.leases]
    by_cases hj : j ∈ ls
    · rw [if_pos hj, if_pos (List.mem_cons_of_mem i hj), hget hj, hlease hj, hv.wentLive]
    · rw [if_neg hj, hv.leases]
      refine if_congr ?_ rfl rfl
      rw [List.mem_singleton, List.mem_cons, or_iff_left hj]
  case slots =>
    rw [hu.slotAt, hv.slotAt, Option.map_map]
    refine congrArg (fun f => (s.slotAt p).map f) (funext fun x => ?_)
    refine (untilsWritten_untilsWritten _ _ x).trans (congrArg (Slot.untilsWritten · x) (funext fun j => ?_))
    by_cases hj : j ∈ ls
    · rw [if_pos hj, if_neg (hne hj), if_pos (List.mem_cons_of_mem i hj), hv.liveUntils (hne hj), Option.or_none]
    · rw [if_neg hj, Option.none_or]
      refine if_congr ?_ rfl rfl
      rw [List.mem_singleton, List.mem_cons, or_iff_left hj]
  case arrived =>
    by_cases hji : j ∈ ls
    · have hsame : v.worker = s.worker := (hv.other fun k _ _ hk _ _ he => hne hji <| by
        obtain rfl := List.mem_singleton.mp hk
        exact List.mem_singleton.mpr (congrArg Handle.index (Option.some.inj (hw.symm.trans he)))).1
      rw [← hsame]
      exact hu.arrived j l m hji ((hlease hji).trans hl) (by rw [hv.arrival, hm]) (by rw [hsame, hw, hhandle hji])
    · obtain ⟨hworker, hready⟩ := hv.arrived j l m
        (List.mem_singleton.mpr ((List.mem_cons.mp hj).resolve_right hji)) hl hm hw
      obtain ⟨hworker', hready'⟩ := hu.other fun _ _ _ _ _ _ => by simp [hworker]
      exact ⟨hworker'.trans hworker, hready'.trans hready⟩
  case other =>
    obtain ⟨hworker, hready⟩ := hv.other fun k l m hk => hno k l m (List.mem_singleton.mp hk ▸ List.mem_cons_self)
    obtain ⟨hworker', hready'⟩ := hu.other fun k l m hk hl hm => by
      rw [hworker, hhandle hk]
      exact hno k l m (List.mem_cons_of_mem i hk) ((hlease hk).symm.trans hl) (by rw [← hv.arrival, hm])
    exact ⟨hworker'.trans hworker, hready'.trans hready⟩
  case engine => rw [hu.engine, hv.engine]

theorem liveReported_foldl {ls : List LeaseIdx} (hls : ls.Nodup) (s : State) :
    LiveReported ls s (ls.foldl reportLive s) := by
  induction ls generalizing s with
  | nil => exact liveReported_nil
  | cons i ls ih =>
    obtain ⟨hi, hls⟩ := List.nodup_cons.mp hls
    exact liveReported_cons hi (liveReported_reportLive s i) (ih hls _)

/-! ### The third step of the slot map unit (02, R32) -/

/-- A record after the third step, by what enters it (02, R32). -/
theorem goLiveDue_eq (now : Frame) (x : Slot) :
    x.goLiveDue now = match x.incoming with
      | some ⟨i, some f, u⟩ =>
        if (now - f).toNat < 32768 ∧ x.owner = none ∧ x.guardUntil = none then
          { x with owner := some i, ownerUntil := u, incoming := none }
        else x
      | _ => x := by
  unfold Slot.goLiveDue
  simp only [come, decide_eq_true_iff] <;> rfl

/-- What the third step and its reports make of every record: the entries `ls` are those that gained a position. -/
theorem goLiveStep_reported (s : State) : ∃ ls : List LeaseIdx,
    (∀ i, i ∈ ls ↔ ∃ p x, s.slotAt p = some x ∧ x.owner = none ∧ (x.goLiveDue s.counter).owner = some i) ∧
      LiveReported ls (s.mapSlots fun _ => Slot.goLiveDue s.counter) s.goLiveStep := by
  refine ⟨allLeases.filter fun i => (ownersGained s.slots (s.mapSlots fun _ => Slot.goLiveDue s.counter).slots).contains i,
    fun i => ?_, liveReported_foldl ((List.nodup_finRange 32).filter _) _⟩
  rw [List.mem_filter, List.contains_iff_mem, mem_ownersGained]
  exact and_iff_right (List.mem_finRange i)

end State

/-- The lease whose incoming entry enters a record at the third step (02, R32). -/
def Slot.enters (now : Frame) (x : Slot) : Option LeaseIdx :=
  match x.incoming with
  | some ⟨i, some f, _⟩ => if (now - f).toNat < 32768 ∧ x.owner = none ∧ x.guardUntil = none then some i else none
  | _ => none

/-- A record that an entry enters (02, R32). -/
theorem Slot.goLiveDue_of_enters {now : Frame} {x : Slot} {i : LeaseIdx} (h : x.enters now = some i) :
    x.owner = none ∧ x.goLiveDue now =
      { x with owner := some i, ownerUntil := x.incoming.bind Incoming.untilFrame, incoming := none } := by
  unfold Slot.enters at h
  rw [goLiveDue_eq]
  split at h
  · next j f u hin =>
    split at h
    · next hc =>
      obtain rfl := Option.some.inj h
      rw [hin]
      exact ⟨hc.2.1, if_pos hc⟩
    · exact absurd h (by simp)
  · exact absurd h (by simp)

/-- A record that none enters stays (02, R32). -/
theorem Slot.goLiveDue_of_not_enters {now : Frame} {x : Slot} (h : x.enters now = none) : x.goLiveDue now = x := by
  unfold Slot.enters at h
  rw [goLiveDue_eq]
  split
  · next i f u hin =>
    rw [hin] at h
    refine if_neg fun hc => ?_
    exact absurd ((if_pos hc).symm.trans h) (by simp)
  · rfl

/-- Which leases the third step makes owners, by what enters (02, R32). -/
theorem Slot.enters_iff {now : Frame} {x : Slot} {i : LeaseIdx} :
    x.enters now = some i ↔ x.owner = none ∧ (x.goLiveDue now).owner = some i := by
  constructor
  · intro h
    obtain ⟨ho, he⟩ := Slot.goLiveDue_of_enters h
    exact ⟨ho, by rw [he]⟩
  · rintro ⟨ho, hi⟩
    cases he : x.enters now with
    | none =>
      rw [Slot.goLiveDue_of_not_enters he, ho] at hi
      exact absurd hi (by simp)
    | some j =>
      rw [(Slot.goLiveDue_of_enters he).2] at hi
      exact hi

/-- A record after the third step and the untils that the reports write. -/
theorem Slot.untilsWritten_goLiveDue (now : Frame) (w : LeaseIdx → Option (Option Frame × Option Frame)) (x : Slot) :
    let y := (x.goLiveDue now).untilsWritten w
    y.guardUntil = x.guardUntil ∧ y.quarantine = x.quarantine ∧
      (∀ i, x.enters now = some i → y.owner = some i ∧ y.incoming = none) ∧
      (x.enters now = none → y.owner = x.owner ∧
        y.incoming.map (fun n => (n.lease, n.fromFrame)) = x.incoming.map (fun n => (n.lease, n.fromFrame)) ∧
        ∀ n, x.incoming = some n → w n.lease = none → y.incoming = some n) ∧
      (y.owner = none → y.ownerUntil = x.ownerUntil) := by
  intro y
  cases he : x.enters now with
  | some i =>
    obtain ⟨hnone, hgo⟩ := Slot.goLiveDue_of_enters he
    have hy : y = Slot.untilsWritten w
        { x with owner := some i, ownerUntil := x.incoming.bind Incoming.untilFrame, incoming := none } :=
      congrArg (Slot.untilsWritten w) hgo
    rw [hy]
    exact ⟨rfl, rfl, fun j hj => ⟨hj, rfl⟩, fun hn => absurd hn (by simp),
      fun ho => absurd ho (by simp [Slot.untilsWritten])⟩
  | none =>
    have hy : y = Slot.untilsWritten w x := congrArg (Slot.untilsWritten w) (Slot.goLiveDue_of_not_enters he)
    rw [hy]
    refine ⟨rfl, rfl, fun j hj => absurd hj (by simp), fun _ => ⟨rfl, ?_, fun n hn hw => ?_⟩, fun ho => ?_⟩
    · refine (Option.map_map ..).trans (congrArg (fun f => x.incoming.map f) (funext fun n => ?_))
      dsimp only [Function.comp]
      split <;> rfl
    · refine (congrArg (Option.map _) hn).trans (congrArg some ?_)
      simp only [hw]
    · have ho : x.owner = none := ho
      exact (congrArg (fun o : Option LeaseIdx => match o.bind w with
        | some a => a.1
        | none => x.ownerUntil) ho :)

/-- The owner-until after the third step: written by the report, or carried across (01, R10). -/
theorem Slot.ownerUntil_untilsWritten_goLiveDue {now : Frame} {w : LeaseIdx → Option (Option Frame × Option Frame)}
    {x : Slot} {i : LeaseIdx} (h : ((x.goLiveDue now).untilsWritten w).owner = some i) :
    ((x.goLiveDue now).untilsWritten w).ownerUntil = match w i with
      | some a => a.1
      | none => if x.enters now = some i then x.incoming.bind Incoming.untilFrame else x.ownerUntil := by
  have howner : (x.goLiveDue now).owner = some i := h
  have hcarried : (x.goLiveDue now).ownerUntil =
      if x.enters now = some i then x.incoming.bind Incoming.untilFrame else x.ownerUntil := by
    cases he : x.enters now with
    | none => rw [Slot.goLiveDue_of_not_enters he, if_neg (by simp)]
    | some j =>
      rw [(Slot.goLiveDue_of_enters he).2] at howner ⊢
      exact (if_pos howner).symm
  rw [← hcarried]
  unfold Slot.untilsWritten
  rw [howner]
  rfl

/-- An ACTIVE lease is not changed by the report that its run is live. -/
theorem live_of_active {l : Lease} (h : l.state = .active) : l.live = l := by
  unfold Lease.live
  rw [h]

/-- The report that the run of a lease is live, in the terms of the statement (01, R17). -/
theorem live_eq (l : Lease) : l.live = match l.state with
    | .pending =>
      { l with state := .active, endFrame := if l.term = 65535 then none else l.startFrame.map (· + l.term) }
    | .ending => (match l.startFrame with
      | some st => if l.term = 65535 then l
        else match l.endFrame with
          | some e => if (e - st).toNat ≤ l.term.toNat then l
            else { l with endFrame := some (st + l.term), endAnnounced := false }
          | none => { l with endFrame := some (st + l.term), endAnnounced := false }
      | none => l)
    | _ => l := by
  unfold Lease.live
  cases hs : l.state with
  | announcing => rfl
  | pending => rfl
  | active => rfl
  | ending =>
    have ht : l.termEnd = if l.term = 65535 then none else l.startFrame.map (· + l.term) := rfl
    rw [ht]
    cases hst : l.startFrame with
    | none => simp
    | some st =>
      by_cases hterm : l.term = 65535
      · simp [hterm]
      · cases he : l.endFrame with
        | none => simp only [if_neg hterm, Option.map_some]
        | some e =>
          simp only [if_neg hterm, Option.map_some]
          rfl

theorem live_startFrame (l : Lease) : l.live.startFrame = l.startFrame := by
  unfold Lease.live
  split
  · rfl
  · split
    · split <;> rfl
    · rfl
    · rfl
  · rfl
  · rfl

theorem live_move (l : Lease) : l.live.move = l.move := by
  unfold Lease.live
  split
  · rfl
  · split
    · split <;> rfl
    · rfl
    · rfl
  · rfl
  · rfl

/-- The until of an end frame, in the terms of the statement (01, R10, R17). -/
theorem untilWord_eq_any (l : Lease) (now : Frame) : l.untilWord now = match l.endFrame with
    | none => none
    | some e => if (e - now).toNat ≤ 32767 ∨ (l.startFrame.any fun st =>
        decide ((e - st).toNat ≤ (now - st).toNat)) = true then some e else none := by
  cases he : l.endFrame with
  | none =>
    unfold Lease.untilWord
    rw [he]
  | some e =>
    cases hs : l.startFrame with
    | none =>
      unfold Lease.untilWord Lease.endCome
      rw [hs, he]
      refine if_congr ?_ rfl rfl
      rw [Bool.or_eq_true, decide_eq_true_iff]
      rfl
    | some st =>
      rw [untilWord_eq hs he]
      exact if_congr (by simp) rfl rfl

namespace State

variable {s u : State} {ls : List LeaseIdx} {i : LeaseIdx} {l : Lease}

/-! ### What the reports say of one lease, in the terms of the state they leave -/

theorem wentLive_of_arrived {m : Move} (hm : l.move = some m) (ho : u.ownsRun i m.target l.cls = true) :
    u.arrival i l = some m ∧ u.wentLive i l = { l with start := m.target, move := none } := by
  have ha : u.arrival i l = some m := by simp [State.arrival, hm, ho, Option.filter]
  exact ⟨ha, by rw [State.wentLive, ha]⟩

theorem arrival_of_moveless (hm : ∀ m, l.move = some m → u.ownsRun i m.target l.cls = false) : u.arrival i l = none := by
  unfold State.arrival
  cases h : l.move with
  | none => rfl
  | some m => simp [hm m h, Option.filter]

theorem wentLive_of_not_arrived (ha : u.arrival i l = none) :
    u.wentLive i l = if u.ownsRun i l.start l.cls then l.live else l := by rw [State.wentLive, ha]

theorem arrival_some {m : Move} (ha : u.arrival i l = some m) : l.move = some m ∧ u.ownsRun i m.target l.cls = true := by
  unfold State.arrival at ha
  exact Option.filter_eq_some_iff.mp ha

/-- A lease after its report. -/
theorem LiveReported.leaseAt (hv : LiveReported ls s u) (hi : i ∈ ls) (hl : s.leaseAt i = some l) :
    u.leaseAt i = some (u.wentLive i l) := by
  rw [hv.wentLive]
  refine (congrArg LeaseEntry.lease ((hv.leases i).trans (if_pos hi)) :).trans ?_
  exact congrArg (Option.map (s.wentLive i)) hl

/-- The untils of a lease that no report writes. -/
theorem liveUntils_of_carried (hl : ∀ l, s.leaseAt i = some l → (l.move = none → s.ownsRun i l.start l.cls = false) ∧
    (∀ m, l.move = some m → s.ownsRun i m.target l.cls = true)) : s.liveUntils i = none := by
  unfold State.liveUntils
  cases h : s.leaseAt i with
  | none => rfl
  | some l =>
    obtain ⟨hrun, hmove⟩ := hl l h
    cases hm : l.move with
    | none => simp [State.arrival, hm, hrun hm]
    | some m => simp [(wentLive_of_arrived (u := s) hm (hmove m hm)).1]

/-- The untils of a lease whose run is live. -/
theorem liveUntils_of_live (hl : s.leaseAt i = some l) (hm : l.move = none) (ho : s.ownsRun i l.start l.cls = true) :
    s.liveUntils i = some (l.live.untilWord s.counter, l.live.untilWord s.counter) := by
  have ha : s.arrival i l = none := arrival_of_moveless fun m h => absurd (hm.symm.trans h) (by simp)
  unfold State.liveUntils
  simp only [hl, ha, ho, if_true]
  have hunsent : ∀ m, l.live.move = some m → m.effect = none := fun m h =>
    absurd ((live_move l).symm.trans h) (by simp [hm])
  rw [ownerWord_of_unsent _ _ hunsent]

end State

/-- Settles O22: the entries that go live are those of the leases that gain a position, and each is reported once. -/
theorem incomingEntriesGoLive : Obligations.IncomingEntriesGoLive := by
  intro s hv hg hl
  have hexec : exec .incomingGoLive s = .next (s.setDue { s.due with goLive := false }).goLiveStep := by
    refine congrArg Host.Outcome.next ?_
    unfold takeGoLive
    rw [takeGuardEnd_of_taken hv hg]
    exact if_pos hl
  refine ⟨_, hexec, ?_⟩
  obtain ⟨ls, hls, hlive⟩ := goLiveStep_reported (s.setDue { s.due with goLive := false })
  have hgained : ∀ i, i ∈ ls ↔ ∃ p x, s.slotAt p = some x ∧ x.enters s.counter = some i := fun i =>
    (hls i).trans (exists_congr fun p => exists_congr fun x => and_congr_right' Slot.enters_iff.symm)
  clear hls
  generalize (s.setDue { s.due with goLive := false }).goLiveStep = t at hlive ⊢
  generalize hs₁ : ((s.setDue { s.due with goLive := false }).mapSlots fun _ =>
    Slot.goLiveDue (s.setDue { s.due with goLive := false }).counter) = s₁ at hlive
  have hslot : ∀ p, t.slotAt p = (s.slotAt p).map fun x => (x.goLiveDue s.counter).untilsWritten
      fun i => if i ∈ ls then s₁.liveUntils i else none := fun p => by
    rw [hlive.slotAt, ← hs₁, slotAt_mapSlots, Option.map_map]
    rfl
  have hget₁ : s₁.leases = s.leases := by rw [← hs₁]; rfl
  have hleaseAt₁ : ∀ i, s₁.leaseAt i = s.leaseAt i := fun i => by rw [← hs₁]; rfl
  have hcounter₁ : s₁.counter = s.counter := by rw [← hs₁]; rfl
  have hworker₁ : s₁.worker = s.worker ∧ (∀ i, s₁.handleOf i = s.handleOf i) ∧ s₁.engine = s.engine := by
    rw [← hs₁]
    exact ⟨rfl, fun _ => rfl, rfl⟩
  obtain ⟨hworker₁, hhandle₁, hengine₁⟩ := hworker₁
  have hlive_lease : ∀ i l, s.leaseAt i = some l → i ∈ ls → t.leaseAt i = some (t.wentLive i l) := fun i l hl hi =>
    hlive.leaseAt hi (by rw [hleaseAt₁, hl])
  refine ⟨⟨fun p x hx => ?slots, fun i => ?entries, fun i hi => ?kept, fun i l m hl hi hm ho => ?arrived,
    fun hno => ?worker, ?engine, fun i l m hl hi hm ho hstays => ?unarrived, fun i l hl hi hm ho => ?live,
    fun i l hl hi hm ho => ?unlive, fun p x y i hx hy hyi => ⟨fun hcarried => ?carried, fun l l' hl hi hm ho hl' => ?written⟩⟩,
    ?untouched⟩
  case slots =>
    obtain ⟨hguard, hquarantine, hentered, hstays, hunowned⟩ := Slot.untilsWritten_goLiveDue s.counter
      (fun i => if i ∈ ls then s₁.liveUntils i else none) x
    refine ⟨_, (hslot p).trans (congrArg _ hx), hguard, hquarantine, hentered, fun he => ?_, hunowned⟩
    obtain ⟨howner, hincoming, hkept⟩ := hstays he
    exact ⟨howner, hincoming, fun n hn hng => hkept n hn (if_neg fun h => hng ((hgained _).mp h))⟩
  case entries =>
    rw [hlive.leases, hget₁]
    split <;> exact ⟨rfl, rfl⟩
  case kept => exact (hlive.get_of_not_mem fun h => hi ((hgained i).mp h)).trans (congrArg (Table.get · i) hget₁)
  case arrived =>
    have hi := (hgained i).mpr hi
    obtain ⟨ha, hw⟩ := wentLive_of_arrived (u := t) hm ho
    refine ⟨(hlive_lease i l hl hi).trans (congrArg some hw), fun hu => ?_⟩
    obtain ⟨hworker, hready⟩ := hlive.arrived i l m hi ((hleaseAt₁ i).trans hl) (by rw [← hlive.arrival]; exact ha)
      (by rw [hworker₁, hhandle₁]; exact hu)
    rw [hworker₁] at hworker
    exact ⟨hworker, hready⟩
  case worker =>
    obtain ⟨hworker, hready⟩ := hlive.other fun i l m hi hl ha => by
      rw [← hlive.arrival] at ha
      rw [hleaseAt₁] at hl
      rw [hworker₁, hhandle₁]
      obtain ⟨hm, ho⟩ := arrival_some ha
      exact hno i l m hl ((hgained i).mp hi) hm ho
    exact ⟨hworker.trans hworker₁, by rw [hready, hengine₁]⟩
  case engine => exact hlive.engine.trans (by rw [hengine₁])
  case unarrived =>
    have ha : t.arrival i l = none := arrival_of_moveless fun m' hm' => by
      obtain rfl := Option.some.inj (hm.symm.trans hm')
      exact ho
    refine (hlive_lease i l hl ((hgained i).mpr hi)).trans (congrArg some ?_)
    rw [wentLive_of_not_arrived ha]
    rcases hstays with hs | hs
    · rw [live_of_active hs, ite_self]
    · rw [hs]
      rfl
  case live =>
    have ha : t.arrival i l = none := arrival_of_moveless fun m h => absurd (hm.symm.trans h) (by simp)
    refine (hlive_lease i l hl ((hgained i).mpr hi)).trans (congrArg some ?_)
    rw [wentLive_of_not_arrived ha, if_pos ho]
    exact live_eq l
  case unlive =>
    have ha : t.arrival i l = none := arrival_of_moveless fun m h => absurd (hm.symm.trans h) (by simp)
    refine (hlive_lease i l hl ((hgained i).mpr hi)).trans (congrArg some ?_)
    rw [wentLive_of_not_arrived ha, ho]
    rfl
  case carried =>
    obtain rfl := Option.some.inj (((hslot p).trans (congrArg _ hx)).symm.trans hy)
    refine (Slot.ownerUntil_untilsWritten_goLiveDue hyi).trans ?_
    have hnone : (if i ∈ ls then s₁.liveUntils i else none) = none := by
      rcases hcarried with hi | hl
      · exact if_neg fun h => hi ((hgained i).mp h)
      · rw [liveUntils_of_carried fun l hl' => ?_, ite_self]
        simp only [← hlive.ownsRun]
        exact hl l ((hleaseAt₁ i).symm.trans hl')
    rw [hnone]
    rfl
  case written =>
    obtain rfl := Option.some.inj (((hslot p).trans (congrArg _ hx)).symm.trans hy)
    refine (Slot.ownerUntil_untilsWritten_goLiveDue hyi).trans ?_
    have hi := (hgained i).mpr hi
    have ha : t.arrival i l = none := arrival_of_moveless fun m h => absurd (hm.symm.trans h) (by simp)
    have hl'' : t.leaseAt i = some l.live :=
      (hlive_lease i l hl hi).trans (congrArg some ((wentLive_of_not_arrived ha).trans (if_pos ho)))
    obtain rfl := Option.some.inj (hl''.symm.trans hl')
    have hw : (if i ∈ ls then s₁.liveUntils i else none) = some (l.live.untilWord s.counter, l.live.untilWord s.counter) := by
      rw [if_pos hi, liveUntils_of_live ((hleaseAt₁ i).trans hl) hm (by rw [← hlive.ownsRun, ho]), hcounter₁]
    rw [hw, ← live_startFrame l]
    exact untilWord_eq_any l.live s.counter
  case untouched =>
    obtain ⟨hfg, hreq, hdef, hturn, hup, hcred, hatt, hattEn, hset, hport, hcmd, hdue, hpend⟩ := hlive.untouched
    subst hs₁
    exact ⟨hdue, hfg, hreq, hdef, hlive.roster, hturn, hup, hlive.notices, hcred, hatt, hattEn, hset, hport, hcmd⟩

end Sys2Proof.Machine
end

section
/-!
PROOFS. Leases that end at a frame start, one after another: an UNSENT move removed, and a lease that holds no position
retired (01, R20, R22; 05, R105), said once for several leases.
-/
namespace Sys2Proof.Machine

open State

/-! ### Incoming entries dropped, and positions freed by it (02, R38, R39) -/

namespace Slot

/-- A record without the incoming entry of a lease that `m` picks. -/
def unentered (m : LeaseIdx → Bool) (x : Slot) : Slot :=
  if x.incoming.any fun n => m n.lease then { x with incoming := none } else x

theorem unentered_none (x : Slot) : x.unentered (fun _ => false) = x := if_neg (by simp)

theorem unentered_eq (m : LeaseIdx → Bool) (x : Slot) :
    x.unentered m = { x with incoming := if x.incoming.any (fun n => m n.lease) then none else x.incoming } := by
  unfold unentered
  split <;> rfl

theorem owner_unentered (m : LeaseIdx → Bool) (x : Slot) : (x.unentered m).owner = x.owner := by rw [unentered_eq]

/-- A record after one lease's incoming entries are dropped. -/
theorem unentered_one (i : LeaseIdx) (x : Slot) : x.unentered (fun j => decide (j = i)) =
    if x.incoming.map Incoming.lease = some i then { x with incoming := none } else x := by
  refine if_congr ?_ rfl rfl
  rw [Option.any_eq_true, Option.map_eq_some_iff]
  exact exists_congr fun n => and_congr_right fun _ => decide_eq_true_iff

/-- Entries dropped in two turns are dropped. -/
theorem unentered_unentered (m m' : LeaseIdx → Bool) (x : Slot) :
    (x.unentered m).unentered m' = x.unentered fun i => m i || m' i := by
  obtain ⟨hcleared, hboth⟩ := any_cleared x.incoming (fun n => m n.lease) (fun n => m' n.lease)
  simp only [unentered_eq, hcleared, hboth]
  cases x.incoming.any fun n => m n.lease
  · simp
  · simp

theorem isFree_unentered {m : LeaseIdx → Bool} {x : Slot} (h : x.isFree = true) : (x.unentered m).isFree = true := by
  have hin : x.incoming = none := by
    unfold isFree at h
    simp only [Bool.and_eq_true, Option.isNone_iff_eq_none] at h
    exact h.1.1.2
  rwa [unentered, if_neg (by simp [hin])]

end Slot

namespace State

variable {s u v w : State}

/-- A position became FREE (02, R39). -/
def Freed (s u : State) : Prop := ∃ p x y, s.slotAt p = some x ∧ u.slotAt p = some y ∧ x.isFree = false ∧ y.isFree = true

theorem not_freed_of_same (h : ∀ p, u.slotAt p = s.slotAt p) : ¬ Freed s u := by
  rintro ⟨p, x, y, hx, hy, hfull, hfree⟩
  obtain rfl := Option.some.inj (hx.symm.trans ((h p).symm.trans hy))
  exact absurd hfree (by simp [hfull])

/-- Positions freed in two turns, where entries are dropped. -/
theorem freed_iff_of_unentered {m m' : LeaseIdx → Bool} (hv : ∀ p, v.slotAt p = (s.slotAt p).map (Slot.unentered m))
    (hu : ∀ p, u.slotAt p = (v.slotAt p).map (Slot.unentered m')) : Freed s u ↔ Freed s v ∨ Freed v u := by
  have hv' : ∀ {p x}, s.slotAt p = some x → v.slotAt p = some (x.unentered m) := fun {p x} hx => by rw [hv, hx]; rfl
  have hu' : ∀ {p x}, v.slotAt p = some x → u.slotAt p = some (x.unentered m') := fun {p x} hx => by rw [hu, hx]; rfl
  constructor
  · rintro ⟨p, x, y, hx, hy, hfull, hfree⟩
    cases hz : (x.unentered m).isFree with
    | true => exact .inl ⟨p, x, _, hx, hv' hx, hfull, hz⟩
    | false => exact .inr ⟨p, _, y, hv' hx, hy, hz, hfree⟩
  · rintro (⟨p, x, z, hx, hz, hfull, hfree⟩ | ⟨p, z, y, hz, hy, hfull, hfree⟩)
    · exact ⟨p, x, _, hx, hu' hz, hfull, Slot.isFree_unentered hfree⟩
    · have hz' := hz
      rw [hv, Option.map_eq_some_iff] at hz'
      obtain ⟨x, hx, rfl⟩ := hz'
      refine ⟨p, x, y, hx, hy, ?_, hfree⟩
      cases hx' : x.isFree with
      | false => rfl
      | true => exact absurd (Slot.isFree_unentered (m := m) hx') (by simp [hfull])

end State

/-! ### What the end of a lease tells (01, R20; 05, R99) -/

/-- An EXPIRED notice tells the end, unless a sent end notice named the end frame. -/
def Lease.toldExpired (l : Lease) : Bool := !(decide (l.state = .ending) && l.endAnnounced)

/-- The reason of a retirement on a full vacate. -/
def Lease.vacateReason (l : Lease) : EndReason := if l.toldExpired = false then l.endReason.getD .expired else .expired

/-- The reply copy of an entry is the GRANT of one of the leases `mine` (07, R149). -/
def forgetsCopy (s : State) (mine : List LeaseIdx) (copy : Option ReplyCopy) : Bool :=
  mine.any fun i => ((s.leaseAt i).any fun l => decide (l.origin = .bus)) &&
    (copy.any fun c => c.notice.isGrant && decide (c.notice.handle = some (s.handleOf i)))

/-- The run lengths of the leases `mine`, added up. -/
def runsOf (s : State) (mine : List LeaseIdx) : Nat :=
  (mine.map fun i => ((s.leaseAt i).map fun l => 2 ^ l.cls.val).getD 0).sum

/-- An entry lowered by the retirement of the leases `mine`, with its reply copy cleared where it is the GRANT of one
(07, R134, R149). -/
def RosterEntry.lowered (s : State) (mine : List LeaseIdx) (e : RosterEntry) : RosterEntry :=
  { e with
    slotsHeld := e.slotsHeld - runsOf s mine,
    leasesHeld := e.leasesHeld - mine.length,
    reply := if forgetsCopy s mine e.reply then none else e.reply,
    lastSeq := if forgetsCopy s mine e.reply then none else e.lastSeq }

theorem forgetsCopy_none (s : State) (mine : List LeaseIdx) : forgetsCopy s mine none = false := by
  unfold forgetsCopy
  simp

theorem RosterEntry.lowered_nil (s : State) (e : RosterEntry) : e.lowered s [] = e := rfl

theorem RosterEntry.lowered_append (s : State) (xs ys : List LeaseIdx) (e : RosterEntry) :
    e.lowered s (xs ++ ys) = (e.lowered s xs).lowered s ys := by
  have hruns : runsOf s (xs ++ ys) = runsOf s xs + runsOf s ys := by
    unfold runsOf
    rw [List.map_append, List.sum_append]
  have hforgets : forgetsCopy s (xs ++ ys) e.reply = (forgetsCopy s xs e.reply || forgetsCopy s ys e.reply) :=
    List.any_append
  unfold RosterEntry.lowered
  rw [hruns, hforgets, List.length_append]
  cases h : forgetsCopy s xs e.reply with
  | true => simp [forgetsCopy_none, Nat.sub_sub]
  | false => simp [Nat.sub_sub]

theorem RosterEntry.lowered_congr {s u : State} {xs : List LeaseIdx} (h : ∀ i ∈ xs, u.leases.get i = s.leases.get i)
    (e : RosterEntry) : e.lowered u xs = e.lowered s xs := by
  have hruns : runsOf u xs = runsOf s xs := by
    unfold runsOf leaseAt
    rw [List.map_congr_left fun i hi => by rw [h i hi]]
  have hforgets : forgetsCopy u xs e.reply = forgetsCopy s xs e.reply := by
    unfold forgetsCopy leaseAt handleOf
    rw [Bool.eq_iff_iff, List.any_eq_true, List.any_eq_true]
    exact exists_congr fun i => and_congr_right fun hi => by rw [h i hi]
  unfold RosterEntry.lowered
  rw [hruns, hforgets]

namespace State

variable {s u v w : State} {ls : List LeaseIdx} {moved : Bool} {gone : LeaseIdx → Bool} {i j : LeaseIdx} {l : Lease}

/-- The entry of a lease that ended: retired, or without its move. -/
def endedEntry (s : State) (gone : LeaseIdx → Bool) (i : LeaseIdx) : LeaseEntry :=
  if gone i = true then ⟨(s.leases.get i).generation + 1, (s.leaseAt i).map Lease.vacateReason, none⟩
  else { s.leases.get i with lease := (s.leaseAt i).map fun l => { l with move := none } }

/-- The notice queue and ATTENTION after the end of one lease: its MOVE withdrawn if `moved`, and, if it is retired, its
notices withdrawn and the EXPIRED notice queued, or NOTICE_DROP (05, R99; 08, R165, R169). -/
def endedQueue (s : State) (moved : Bool) (gone : LeaseIdx → Bool) (x : List QueuedNotice × BitVec 10) (i : LeaseIdx) :
    List QueuedNotice × BitVec 10 :=
  let moveless := if moved = true then x.1.filter fun q => !(decide (q.link = some i) && q.notice.isMove) else x.1
  if gone i = false then (moveless, x.2) else
  let kept := moveless.filter fun q => decide (q.notice.handle ≠ some (s.handleOf i))
  match s.leaseAt i with
  | none => x
  | some l => match l.holder with
    | none => (kept, x.2)
    | some a => if l.toldExpired = false then (kept, x.2) else if kept.length < 16
        then (kept ++ [⟨⟨a, some (s.handleOf i), l.seqEcho, .expired .expired⟩, none, false, false, none, false⟩], x.2)
        else (kept, x.2 ||| 0x080)

/-- What the end of the leases `ls` makes of every record: their moves removed if `moved`, and those `gone` retired
(01, R20, R22; 05, R105). -/
structure Ended (ls : List LeaseIdx) (moved : Bool) (gone : LeaseIdx → Bool) (s u : State) : Prop where
  leases : ∀ i, u.leases.get i = if i ∈ ls then s.endedEntry gone i else s.leases.get i
  slotAt : ∀ p, u.slotAt p = (s.slotAt p).map (Slot.unentered fun i => moved && decide (i ∈ ls))
  queue : (u.notices, u.attention) = ls.foldl (s.endedQueue moved gone) (s.notices, s.attention)
  entry : ∀ a, u.entry a = (s.entry a).lowered s ((ls.filter gone).filter fun i => s.heldBy a i)
  engine : u.engine = { s.engine with reconsider := u.engine.reconsider, stepReady := u.engine.stepReady }
  reconsider : u.engine.reconsider = true ↔ s.engine.reconsider = true ∨ (∃ i ∈ ls, gone i = true) ∨ Freed s u
  underMove : ∀ i l, i ∈ ls → s.leaseAt i = some l → s.worker.underMove = some (s.handleOf i) →
    u.worker = { s.worker with status := .active .step, scan := l.start.val + 1, underMove := none } ∧ u.engine.stepReady = true
  other : (∀ i ∈ ls, s.worker.underMove ≠ some (s.handleOf i)) → u.worker = s.worker ∧ u.engine.stepReady = s.engine.stepReady
  untouched : Untouched (s.setAttention u.attention) u

/-- The records that no end writes, but for ATTENTION, in two turns. -/
theorem untouched_trans (hv : Untouched (s.setAttention v.attention) v) (hu : Untouched (v.setAttention u.attention) u) :
    Untouched (s.setAttention u.attention) u :=
  ⟨hu.fg.trans hv.fg, hu.requests.trans hv.requests, hu.deferred.trans hv.deferred, hu.turnPointer.trans hv.turnPointer,
    hu.uplink.trans hv.uplink, hu.credited.trans hv.credited, rfl, hu.attnEn.trans hv.attnEn,
    hu.settings.trans hv.settings, hu.port.trans hv.port, hu.cmd.trans hv.cmd, hu.due.trans hv.due,
    hu.pending.trans hv.pending⟩

theorem unentered_of_none (h : ∀ i, (moved && decide (i ∈ ls)) = false) (o : Option Slot) :
    o.map (Slot.unentered fun i => moved && decide (i ∈ ls)) = o := by
  rw [show (fun i => moved && decide (i ∈ ls)) = fun _ => false from funext h,
    show Slot.unentered (fun _ => false) = id from funext Slot.unentered_none, Option.map_id, id]

theorem ended_nil : Ended [] moved gone s s where
  leases _ := rfl
  slotAt p := (unentered_of_none (fun i => by simp) _).symm
  queue := rfl
  entry a := rfl
  engine := rfl
  reconsider := by simp [not_freed_of_same (s := s) (u := s) fun _ => rfl]
  underMove _ _ h := absurd h (by simp)
  other _ := ⟨rfl, rfl⟩
  untouched := ⟨rfl, rfl, rfl, rfl, rfl, rfl, rfl, rfl, rfl, rfl, rfl, rfl, rfl⟩

theorem Ended.get_ne (hv : Ended [i] moved gone s v) (hj : j ≠ i) : v.leases.get j = s.leases.get j :=
  (hv.leases j).trans (if_neg (by simpa using hj))

theorem Ended.leaseAt_ne (hv : Ended [i] moved gone s v) (hj : j ≠ i) : v.leaseAt j = s.leaseAt j :=
  congrArg LeaseEntry.lease (hv.get_ne hj)

theorem Ended.handleOf_ne (hv : Ended [i] moved gone s v) (hj : j ≠ i) : v.handleOf j = s.handleOf j :=
  congrArg (fun e : LeaseEntry => Handle.mk j e.generation) (hv.get_ne hj)

theorem Ended.counter (hv : Ended ls moved gone s v) : v.counter = s.counter := congrArg FrameGen.counter hv.untouched.fg

/-- The end of one lease changes nothing that the ends of others read. -/
theorem endedQueue_congr {gone' : LeaseIdx → Bool} (h : v.leases.get j = s.leases.get j) (hg : gone' j = gone j)
    (x : List QueuedNotice × BitVec 10) : v.endedQueue moved gone' x j = s.endedQueue moved gone x j := by
  have hlease : v.leaseAt j = s.leaseAt j := congrArg LeaseEntry.lease h
  have hhandle : v.handleOf j = s.handleOf j := congrArg (fun e : LeaseEntry => Handle.mk j e.generation) h
  unfold endedQueue
  simp only [hlease, hhandle, hg]

theorem endedEntry_congr {gone' : LeaseIdx → Bool} (h : v.leases.get j = s.leases.get j) (hg : gone' j = gone j) :
    v.endedEntry gone' j = s.endedEntry gone j := by
  unfold endedEntry leaseAt
  rw [h, hg]

theorem heldBy_congr {a : Trib} (h : v.leases.get j = s.leases.get j) : v.heldBy a j = s.heldBy a j := by
  unfold heldBy leaseAt
  rw [h]

/-- The end of one lease before those of others. -/
theorem ended_cons {gone' : LeaseIdx → Bool} (hi : i ∉ ls) (hg : ∀ j ∈ ls, gone' j = gone j)
    (hv : Ended [i] moved gone s v) (hu : Ended ls moved gone' v u) : Ended (i :: ls) moved gone s u := by
  have hne : ∀ {j}, j ∈ ls → j ≠ i := fun hj he => hi (he ▸ hj)
  have hget : ∀ {j}, j ∈ ls → v.leases.get j = s.leases.get j := fun hj => hv.get_ne (hne hj)
  refine ⟨fun j => ?leases, fun p => ?slots, ?queue, fun a => ?entry, ?engine, ?reconsider, fun j l hj hl hm => ?underMove,
    fun hno => ?other, untouched_trans hv.untouched hu.untouched⟩
  case leases =>
    rw [hu.leases]
    by_cases hj : j ∈ ls
    · rw [if_pos hj, if_pos (List.mem_cons_of_mem i hj), endedEntry_congr (hget hj) (hg j hj)]
    · rw [if_neg hj, hv.leases]
      exact if_congr (by rw [List.mem_singleton, List.mem_cons, or_iff_left hj]) rfl rfl
  case slots =>
    rw [hu.slotAt, hv.slotAt, Option.map_map]
    refine congrArg (fun f => (s.slotAt p).map f) (funext fun x => ?_)
    rw [Function.comp_apply, Slot.unentered_unentered]
    refine congrArg (Slot.unentered · x) (funext fun j => ?_)
    rw [← Bool.and_or_distrib_left, ← Bool.decide_or]
    simp only [List.mem_cons, List.not_mem_nil, or_false]
  case queue =>
    rw [hu.queue, hv.queue]
    exact List.foldl_ext _ _ _ fun x j hj => endedQueue_congr (hget hj) (hg j hj) x
  case entry =>
    rw [hu.entry, hv.entry]
    have hmine : (ls.filter gone').filter (fun j => v.heldBy a j) = (ls.filter gone).filter fun j => s.heldBy a j := by
      rw [List.filter_congr hg]
      exact List.filter_congr fun j hj => heldBy_congr (hget (List.mem_of_mem_filter hj))
    rw [hmine, RosterEntry.lowered_congr fun j hj => hget (List.mem_of_mem_filter (List.mem_of_mem_filter hj)),
      ← RosterEntry.lowered_append, ← List.filter_append, ← List.filter_append]
    rfl
  case engine => rw [hu.engine, hv.engine]
  case reconsider =>
    rw [hu.reconsider, hv.reconsider, freed_iff_of_unentered hv.slotAt hu.slotAt]
    have hgone : (∃ j ∈ i :: ls, gone j = true) ↔ (∃ j ∈ [i], gone j = true) ∨ ∃ j ∈ ls, gone' j = true := by
      rw [List.exists_mem_cons_iff, List.exists_mem_cons_iff]
      simp only [List.not_mem_nil, false_and, exists_false, or_false]
      exact or_congr_right (exists_congr fun j => and_congr_right fun hj => by rw [hg j hj])
    rw [hgone, or_assoc, or_or_or_comm]
  case underMove =>
    by_cases hji : j = i
    · subst hji
      obtain ⟨hworker, hready⟩ := hv.underMove j l (List.mem_singleton_self j) hl hm
      obtain ⟨hworker', hready'⟩ := hu.other fun j' _ => by simp [hworker]
      exact ⟨hworker'.trans hworker, hready'.trans hready⟩
    · have hno : ∀ k ∈ [i], s.worker.underMove ≠ some (s.handleOf k) := fun k hk he => hji <|
        (congrArg Handle.index (Option.some.inj (hm.symm.trans he))).trans (List.mem_singleton.mp hk)
      obtain ⟨hworker, -⟩ := hv.other hno
      rw [← hworker]
      exact hu.underMove j l ((List.mem_cons.mp hj).resolve_left hji) ((hv.leaseAt_ne hji).trans hl)
        (by rw [hworker, hv.handleOf_ne hji, hm])
  case other =>
    obtain ⟨hworker, hready⟩ := hv.other fun k hk => hno k (List.mem_singleton.mp hk ▸ List.mem_cons_self)
    obtain ⟨hworker', hready'⟩ := hu.other fun j hj => by
      rw [hworker, hv.handleOf_ne (hne hj)]
      exact hno j (List.mem_cons_of_mem i hj)
    exact ⟨hworker'.trans hworker, hready'.trans hready⟩

/-- Ends made one after another: `pick` says which leases end, and the end of one leaves that of the others as it is. -/
theorem ended_foldl {step : State → LeaseIdx → State} {pick gone : State → LeaseIdx → Bool}
    (hpick : ∀ s i, pick s i = true → Ended [i] moved (gone s) s (step s i))
    (hskip : ∀ s i, pick s i = false → step s i = s)
    (hkeep : ∀ s v i j, Ended [i] moved (gone s) s v → j ≠ i → pick v j = pick s j ∧ gone v j = gone s j)
    (hls : ls.Nodup) (s : State) : Ended (ls.filter (pick s)) moved (gone s) s (ls.foldl step s) := by
  induction ls generalizing s with
  | nil => exact ended_nil
  | cons i ls ih =>
    obtain ⟨hi, hls⟩ := List.nodup_cons.mp hls
    have htail := ih hls (step s i)
    cases hp : pick s i with
    | false =>
      rw [hskip s i hp] at htail
      rw [List.filter_cons_of_neg (by simp [hp]), List.foldl_cons, hskip s i hp]
      exact htail
    | true =>
      have hhead := hpick s i hp
      have hne : ∀ j ∈ ls, j ≠ i := fun j hj he => hi (he ▸ hj)
      rw [List.filter_congr fun j hj => (hkeep s _ i j hhead (hne j hj)).1] at htail
      rw [List.filter_cons_of_pos hp]
      exact ended_cons (fun h => hi (List.mem_of_mem_filter h))
        (fun j hj => (hkeep s _ i j hhead (hne j (List.mem_of_mem_filter hj))).2) hhead htail

/-! ### The end of one lease -/

/-- A table where one record is replaced, in the terms of a list of one. -/
theorem get_set_singleton {α : Type} {n : Nat} (tbl : Table α n) (i j : Fin n) (e : α) :
    (tbl.set i e).get j = if j ∈ [i] then e else tbl.get j := by
  by_cases hj : j = i
  · subst hj
    rw [if_pos (List.mem_singleton_self j), Table.get_set_eq]
  · rw [if_neg (by simpa using hj), Table.get_set_ne _ _ hj]

/-- No record names a lease (01, R20). -/
theorem positionsHold_eq_false : s.positionsHold i = false ↔
    ∀ p x, s.slotAt p = some x → x.owner ≠ some i ∧ x.incoming.map Incoming.lease ≠ some i := by
  have hholds : ∀ x : Slot, x.holds i = false ↔ x.owner ≠ some i ∧ x.incoming.map Incoming.lease ≠ some i := fun x => by
    unfold Slot.holds Slot.ownedBy Slot.awaits
    rw [Bool.or_eq_false_iff, decide_eq_false_iff_not]
    refine and_congr_right fun _ => ?_
    cases x.incoming with
    | none => simp
    | some n => simp
  unfold positionsHold
  rw [List.any_eq_false]
  constructor
  · exact fun h p x hx => (hholds x).mp (Bool.eq_false_iff.mpr (h x ((mem_cells_iff s x).mpr ⟨p, hx⟩)))
  · intro h x hx
    obtain ⟨p, hp⟩ := (mem_cells_iff s x).mp hx
    exact Bool.eq_false_iff.mp ((hholds x).mpr (h p x hp))

theorem retireVacated_eq (hl : s.leaseAt i = some l) : s.retireVacated i =
    if l.toldExpired = false then s.retire i l.vacateReason
    else (s.retire i l.vacateReason).tellHolder l (s.handleOf i) (.expired .expired) := by
  have htold : (l.state = .ending ∧ l.endAnnounced = true) ↔ l.toldExpired = false := by
    unfold Lease.toldExpired
    rw [Bool.not_eq_false', Bool.and_eq_true, decide_eq_true_iff]
  have hform : s.retireVacated i = if l.state = .ending ∧ l.endAnnounced = true
      then s.retire i (l.endReason.getD .expired)
      else (s.retire i .expired).tellHolder l (s.handleOf i) (.expired .expired) := by
    unfold retireVacated
    rw [hl]
  rw [hform]
  refine ite_congr (propext htold) (fun h => ?_) fun h => ?_
  · rw [Lease.vacateReason, if_pos h]
  · rw [Lease.vacateReason, if_neg h]

/-- The queue after the retirement of one lease. -/
theorem endedQueue_retired (hl : s.leaseAt i = some l) (hg : gone i = true) (x : List QueuedNotice × BitVec 10) :
    s.endedQueue false gone x i =
      (let kept := x.1.filter fun q => decide (q.notice.handle ≠ some (s.handleOf i))
       match l.holder with
       | none => (kept, x.2)
       | some a => if l.toldExpired = false then (kept, x.2) else if kept.length < 16
          then (kept ++ [⟨⟨a, some (s.handleOf i), l.seqEcho, .expired .expired⟩, none, false, false, none, false⟩], x.2)
          else (kept, x.2 ||| 0x080)) := by
  unfold endedQueue
  simp only [hg, hl]
  rfl

/-- A retirement on a full vacate: the retirement for its reason, and what it tells (01, R20; 05, R99). -/
theorem retireVacated_form (hl : s.leaseAt i = some l) (hg : gone i = true) :
    s.retireVacated i = ((s.retire i l.vacateReason).setNotices (s.endedQueue false gone (s.notices, s.attention) i).1).setAttention
      (s.endedQueue false gone (s.notices, s.attention) i).2 := by
  have hnotices := notices_retire s hl (r := l.vacateReason)
  have hattention := attention_retire s i l.vacateReason
  rw [retireVacated_eq hl, endedQueue_retired hl hg]
  dsimp only
  rw [← hnotices, ← hattention]
  generalize s.retire i l.vacateReason = v
  cases ha : l.holder with
  | none =>
    unfold tellHolder
    simp only [ha]
    split
    · rfl
    · rfl
  | some a =>
    unfold tellHolder inform
    simp only [ha, submit_form]
    by_cases ht : l.toldExpired = false
    · rw [if_pos ht, if_pos ht]
      rfl
    · rw [if_neg ht, if_neg ht]
      by_cases hroom : v.notices.length < 16
      · rw [if_pos hroom, if_pos hroom, if_pos hroom]
      · rw [if_neg hroom, if_neg hroom, if_neg hroom] <;> rfl

/-- An entry lowered by the retirement of one lease (07, R134, R149). -/
theorem lowered_one (hl : s.leaseAt i = some l) (e : RosterEntry) : e.lowered s [i] =
    (let forgets := decide (l.origin = .bus) &&
      (e.reply.any fun c => c.notice.isGrant && decide (c.notice.handle = some (s.handleOf i)))
     { e with
       slotsHeld := e.slotsHeld - 2 ^ l.cls.val, leasesHeld := e.leasesHeld - 1,
       reply := if forgets then none else e.reply, lastSeq := if forgets then none else e.lastSeq }) := by
  have hruns : runsOf s [i] = 2 ^ l.cls.val := by simp [runsOf, hl]
  have hforgets : forgetsCopy s [i] e.reply = (decide (l.origin = .bus) &&
      (e.reply.any fun c => c.notice.isGrant && decide (c.notice.handle = some (s.handleOf i)))) := by
    simp [forgetsCopy, hl]
  unfold RosterEntry.lowered
  rw [hruns, hforgets]
  rfl

/-- The reply copy is the GRANT of a lease of origin BUS, as the two statements say it (07, R149). -/
theorem forgets_iff {o : Origin} {copy : Option ReplyCopy} {h : Handle} :
    (o = .bus ∧ ∃ c, copy = some c ∧ c.notice.isGrant = true ∧ c.notice.handle = some h) ↔
      (decide (o = .bus) && (copy.any fun c => c.notice.isGrant && decide (c.notice.handle = some h))) = true := by
  rw [Bool.and_eq_true, decide_eq_true_iff, Option.any_eq_true]
  refine and_congr_right fun _ => exists_congr fun c => and_congr_right fun _ => ?_
  rw [Bool.and_eq_true, decide_eq_true_iff]

/-- The entry of the holder, and every other, after one retirement. -/
theorem Retired.entry_lowered {r : EndReason} (hl : s.leaseAt i = some l) (hv : Retired i (s.handleOf i) l r s v) (a : Trib) :
    v.entry a = (s.entry a).lowered s ([i].filter fun i => s.heldBy a i) := by
  have hheld : s.heldBy a i = decide (l.holder = some a) := by
    unfold heldBy
    rw [hl]
  by_cases ha : l.holder = some a
  · rw [List.filter_cons_of_pos (by simp [hheld, ha]), List.filter_nil, lowered_one hl]
    obtain ⟨hforgets, hkeeps⟩ := hv.holder a ha
    by_cases hf : l.origin = .bus ∧ ∃ c, (s.entry a).reply = some c ∧ c.notice.isGrant = true ∧
        c.notice.handle = some (s.handleOf i)
    · have hb := hf
      rw [forgets_iff] at hb
      dsimp only
      rw [hb]
      exact (congrArg (Table.get · a) (hforgets hf)).trans (Table.get_set_eq ..)
    · have hb := hf
      rw [forgets_iff, Bool.not_eq_true] at hb
      dsimp only
      rw [hb]
      exact (congrArg (Table.get · a) (hkeeps hf)).trans (Table.get_set_eq ..)
  · rw [List.filter_cons_of_neg (by simp [hheld, ha]), List.filter_nil, RosterEntry.lowered_nil]
    cases hb : l.holder with
    | none => exact congrArg (Table.get · a) (hv.pin hb)
    | some b => exact hv.others hb fun he => ha (hb.trans (congrArg some he.symm))

/-- The retirement of a lease that no record names (01, R20). -/
theorem ended_retireVacated (hl : s.leaseAt i = some l) (hnone : s.positionsHold i = false) (hg : gone i = true) :
    Ended [i] false gone s (s.retireVacated i) := by
  have hnames := positionsHold_eq_false.mp hnone
  have hv : Retired i (s.handleOf i) l l.vacateReason s (s.retire i l.vacateReason) := retired_retire hl rfl
  rw [retireVacated_form hl hg]
  generalize s.retire i l.vacateReason = v at hv
  have hslot : ∀ p, v.slotAt p = s.slotAt p := fun p => by
    rw [hv.slotAt]
    cases hx : s.slotAt p with
    | none => rfl
    | some x =>
      obtain ⟨howner, hincoming⟩ := hnames p x hx
      rw [Option.map_some, if_neg howner]
      exact congrArg some (if_neg hincoming)
  have hreconsider : v.engine.reconsider = true := (congrArg Engine.reconsider hv.engine :)
  refine ⟨fun j => ?leases, fun p => ?slots, rfl, fun a => ?entry, ?engine, ?reconsider, fun j k hj hk hm => ?underMove,
    fun hno => ?other, ?untouched⟩
  case leases =>
    refine (congrArg (Table.get · j) hv.leases).trans ((get_set_singleton ..).trans (ite_congr rfl (fun hj => ?_) fun _ => rfl))
    obtain rfl := List.mem_singleton.mp hj
    rw [endedEntry, if_pos hg, hl]
    rfl
  case slots => exact (hslot p).trans (unentered_of_none (fun _ => rfl) _).symm
  case entry =>
    rw [List.filter_cons_of_pos hg, List.filter_nil]
    exact hv.entry_lowered hl a
  case engine =>
    change v.engine = { s.engine with reconsider := v.engine.reconsider, stepReady := v.engine.stepReady }
    rw [hreconsider]
    exact hv.engine
  case reconsider => exact iff_of_true hreconsider (.inr (.inl ⟨i, List.mem_singleton_self i, hg⟩))
  case underMove =>
    obtain rfl := List.mem_singleton.mp hj
    obtain rfl := Option.some.inj (hl.symm.trans hk)
    exact hv.overtaken.underMove hm
  case other => exact hv.overtaken.other (hno i (List.mem_singleton_self i))
  case untouched =>
    obtain ⟨hfg, hrequests, hdeferred, hpointer, huplink, hcredited, -, hattnEn, hsettings, hport, hcmd, hdue, hpending⟩ :=
      hv.untouched
    exact ⟨hfg, hrequests, hdeferred, hpointer, huplink, hcredited, rfl, hattnEn, hsettings, hport, hcmd, hdue, hpending⟩

/-- The removal of a lease's UNSENT move (05, R105). -/
theorem ended_removeMove (hl : s.leaseAt i = some l) (hg : gone i = false) : Ended [i] true gone s (s.removeMove i) := by
  refine ⟨fun j => ?leases, fun p => ?slots, ?queue, fun a => ?entry, engine_removeMove_flags hl, ?reconsider,
    fun j k hj hk hm => ?underMove, fun hno => worker_removeMove_other hl (hno i (List.mem_singleton_self i)), ?untouched⟩
  case leases =>
    rw [leases_removeMove hl]
    refine (get_set_singleton ..).trans (ite_congr rfl (fun hj => ?_) fun _ => rfl)
    obtain rfl := List.mem_singleton.mp hj
    rw [endedEntry, if_neg (by simp [hg]), hl]
    rfl
  case slots =>
    rw [slotAt_removeMove hl]
    refine congrArg (fun f => (s.slotAt p).map f) (funext fun x => ?_)
    rw [← Slot.unentered_one]
    simp
  case queue =>
    rw [notices_removeMove hl, attention_removeMove, List.foldl_cons, List.foldl_nil, endedQueue]
    exact (if_pos hg).symm
  case entry =>
    rw [List.filter_cons_of_neg (by simp [hg])]
    exact congrArg (Table.get · a) (roster_removeMove s i)
  case reconsider =>
    rw [reconsider_removeMove hl]
    refine or_congr_right (Iff.symm (or_iff_right ?_))
    rintro ⟨j, hj, hgj⟩
    obtain rfl := List.mem_singleton.mp hj
    exact absurd hgj (by simp [hg])
  case underMove =>
    obtain rfl := List.mem_singleton.mp hj
    obtain rfl := Option.some.inj (hl.symm.trans hk)
    exact worker_removeMove_underMove hl hm
  case untouched =>
    exact ⟨fg_removeMove .., requests_removeMove .., deferred_removeMove .., turnPointer_removeMove .., uplink_removeMove ..,
      credited_removeMove .., rfl, attnEn_removeMove .., settings_removeMove .., port_removeMove .., cmd_removeMove ..,
      due_removeMove .., pending_removeMove ..⟩

/-- A move removed, and then the lease retired (05, R105). -/
theorem ended_removed_retired {gone' : LeaseIdx → Bool} (hl : s.leaseAt i = some l) (hg : gone i = true) (hg' : gone' i = false)
    (hv : Ended [i] true gone' s v) (hu : Ended [i] false gone v u) : Ended [i] true gone s u := by
  have hget : v.leases.get i = { s.leases.get i with lease := some { l with move := none } } := by
    rw [hv.leases, if_pos (List.mem_singleton_self i), endedEntry, if_neg (by simp [hg']), hl]
    rfl
  have hlease : v.leaseAt i = some { l with move := none } := congrArg LeaseEntry.lease hget
  have hhandle : v.handleOf i = s.handleOf i := (congrArg (fun e : LeaseEntry => Handle.mk i e.generation) hget :)
  have hslot : ∀ p, u.slotAt p = v.slotAt p := fun p => (hu.slotAt p).trans (unentered_of_none (fun _ => rfl) _)
  refine ⟨fun j => ?leases, fun p => (hslot p).trans (hv.slotAt p), ?queue, fun a => ?entry, ?engine, ?reconsider,
    fun j k hj hk hm => ?underMove, fun hno => ?other, untouched_trans hv.untouched hu.untouched⟩
  case leases =>
    rw [hu.leases]
    by_cases hj : j ∈ [i]
    · obtain rfl := List.mem_singleton.mp hj
      rw [if_pos hj, if_pos hj, endedEntry, endedEntry, if_pos hg, if_pos hg, hlease, hl, hget]
      rfl
    · rw [if_neg hj, if_neg hj, hv.leases, if_neg hj]
  case queue =>
    rw [hu.queue, hv.queue, List.foldl_cons, List.foldl_nil, List.foldl_cons, List.foldl_nil, List.foldl_cons, List.foldl_nil,
      endedQueue_retired hlease hg, hhandle]
    unfold endedQueue
    simp only [hg, hg', hl]
    rfl
  case entry =>
    have hnone : [i].filter gone' = [] := List.filter_cons_of_neg (by simp [hg'])
    have hone : [i].filter gone = [i] := List.filter_cons_of_pos hg
    rw [hu.entry, hv.entry, hnone, hone, List.filter_nil, RosterEntry.lowered_nil]
    have hheld : v.heldBy a i = s.heldBy a i := by
      unfold heldBy
      rw [hlease, hl]
    cases hb : s.heldBy a i with
    | false =>
      rw [List.filter_cons_of_neg (by simp [hheld, hb]), List.filter_cons_of_neg (by simp [hb])]
      rfl
    | true =>
      rw [List.filter_cons_of_pos (by simp [hheld, hb]), List.filter_cons_of_pos (by simp [hb]), List.filter_nil,
        List.filter_nil, lowered_one hlease, lowered_one hl, hhandle]
  case engine => rw [hu.engine, hv.engine]
  case reconsider =>
    exact iff_of_true (hu.reconsider.mpr (.inr (.inl ⟨i, List.mem_singleton_self i, hg⟩)))
      (.inr (.inl ⟨i, List.mem_singleton_self i, hg⟩))
  case underMove =>
    obtain ⟨hworker, hready⟩ := hv.underMove j k hj hk hm
    obtain ⟨hworker', hready'⟩ := hu.other fun _ _ => by simp [hworker]
    exact ⟨hworker'.trans hworker, hready'.trans hready⟩
  case other =>
    obtain ⟨hworker, hready⟩ := hv.other hno
    obtain ⟨hworker', hready'⟩ := hu.other fun j hj => by
      obtain rfl := List.mem_singleton.mp hj
      rw [hworker, hhandle]
      exact hno j hj
    exact ⟨hworker'.trans hworker, hready'.trans hready⟩

end State

end Sys2Proof.Machine
end

section
/-!
PROOFS. The full vacates of a frame start (02, R30, R33; 01, R20).
-/
namespace Sys2Proof.Machine

open State

/-- The owner of a record leaves at this frame start (02, R30). -/
def Slot.leaves (now : Frame) (x : Slot) : Bool := x.owner.isSome && (match x.ownerUntil with
  | some u => decide ((now - u).toNat < 32768)
  | none => false)

/-- A record after the first step (02, R30). -/
theorem Slot.vacateDue_eq (now : Frame) (x : Slot) : x.vacateDue now =
    if x.leaves now then { x with owner := none, ownerUntil := none, guardUntil := some (now + 1) } else x := by
  obtain ⟨owner, ownerUntil, incoming, guardUntil, quarantine⟩ := x
  cases owner with
  | none => rfl
  | some i =>
    cases ownerUntil with
    | none => rfl
    | some u => rfl

namespace State

variable {s u v : State} {i j : LeaseIdx} {l : Lease} {moved : Bool} {gone : LeaseIdx → Bool}

/-- A lease that no record names any longer (01, R20). -/
def vacatedLease (s : State) (i : LeaseIdx) : Bool := (s.leaseAt i).isSome && !s.positionsHold i

theorem reportVacated_of_not {s : State} {i : LeaseIdx} (h : s.vacatedLease i = false) : s.reportVacated i = s := by
  unfold vacatedLease at h
  unfold reportVacated
  cases hl : s.leaseAt i with
  | none =>
    have hsame : s.retireVacated i = s := by
      unfold retireVacated
      rw [hl]
    rw [hsame, ite_self]
  | some l => exact if_pos (by simpa [hl] using h)

theorem ended_reportVacated {s : State} {i : LeaseIdx} (h : s.vacatedLease i = true) (hg : gone i = true) :
    Ended [i] false gone s (s.reportVacated i) := by
  unfold vacatedLease at h
  rw [Bool.and_eq_true, Bool.not_eq_true', Option.isSome_iff_exists] at h
  obtain ⟨⟨l, hl⟩, hnone⟩ := h
  unfold reportVacated
  rw [hnone]
  exact ended_retireVacated hl hnone hg

/-- Where no incoming entry is dropped the slot map stays. -/
theorem Ended.slotAt_of_unmoved {ls : List LeaseIdx} (hv : Ended ls false gone s v) (p : Nat) : v.slotAt p = s.slotAt p :=
  (hv.slotAt p).trans (unentered_of_none (fun _ => rfl) _)

/-- The retirement of one vacated lease leaves the others as they are. -/
theorem vacatedLease_of_ended (hv : Ended [i] false gone s v) (hj : j ≠ i) : v.vacatedLease j = s.vacatedLease j := by
  have hhold : v.positionsHold j = s.positionsHold j := by
    cases h : s.positionsHold j with
    | false =>
      rw [positionsHold_eq_false] at h ⊢
      simpa only [hv.slotAt_of_unmoved] using h
    | true =>
      rw [← Bool.not_eq_false, positionsHold_eq_false] at h ⊢
      simpa only [hv.slotAt_of_unmoved] using h
  unfold vacatedLease
  rw [hv.leaseAt_ne hj, hhold]

/-- The fully-vacated reports of a list of leases (02, R33). -/
theorem ended_reportVacated_foldl {ls : List LeaseIdx} (hls : ls.Nodup) (s : State) :
    Ended (ls.filter s.vacatedLease) false (fun _ => true) s (ls.foldl reportVacated s) :=
  ended_foldl (pick := vacatedLease) (gone := fun _ _ => true) (fun _ _ h => ended_reportVacated h rfl)
    (fun _ _ h => reportVacated_of_not h) (fun _ _ _ _ hv hj => ⟨vacatedLease_of_ended hv hj, rfl⟩) hls s

/-- The leases that lose their last position at this frame start (02, R30, R33). -/
def vacating (s : State) (i : LeaseIdx) : Bool := (s.leaseAt i).isSome &&
  (s.slots.cells.any fun x => decide (x.owner = some i) && x.leaves s.counter) &&
  (s.slots.cells.all fun x => (decide (x.owner ≠ some i) || x.leaves s.counter) &&
    decide (x.incoming.map Incoming.lease ≠ some i))

theorem any_cells_iff {f : Slot → Bool} : s.slots.cells.any f = true ↔ ∃ p x, s.slotAt p = some x ∧ f x = true := by
  rw [List.any_eq_true]
  constructor
  · rintro ⟨x, hx, hf⟩
    obtain ⟨p, hp⟩ := (mem_cells_iff s x).mp hx
    exact ⟨p, x, hp, hf⟩
  · rintro ⟨p, x, hp, hf⟩
    exact ⟨x, (mem_cells_iff s x).mpr ⟨p, hp⟩, hf⟩

theorem all_cells_iff {f : Slot → Bool} : s.slots.cells.all f = true ↔ ∀ p x, s.slotAt p = some x → f x = true := by
  rw [List.all_eq_true]
  exact ⟨fun h p x hp => h x ((mem_cells_iff s x).mpr ⟨p, hp⟩), fun h x hx =>
    (mem_cells_iff s x).mp hx |>.elim fun p hp => h p x hp⟩

/-- Which leases the first step reports, and which of those are retired. -/
theorem vacating_iff (s : State) (i : LeaseIdx) : s.vacating i = true ↔
    i ∈ ownersLost s.slots (s.mapSlots fun _ => Slot.vacateDue s.counter).slots ∧
      (s.mapSlots fun _ => Slot.vacateDue s.counter).vacatedLease i = true := by
  have howner : ∀ x : Slot, (x.vacateDue s.counter).owner = if x.leaves s.counter then none else x.owner := fun x => by
    rw [Slot.vacateDue_eq]
    split <;> rfl
  have hincoming : ∀ x : Slot, (x.vacateDue s.counter).incoming = x.incoming := fun x => by
    rw [Slot.vacateDue_eq]
    split <;> rfl
  have hlost : i ∈ ownersLost s.slots (s.mapSlots fun _ => Slot.vacateDue s.counter).slots ↔
      ∃ p x, s.slotAt p = some x ∧ x.owner = some i ∧ x.leaves s.counter = true := by
    rw [mem_ownersLost]
    refine exists_congr fun p => exists_congr fun x => and_congr_right fun _ => and_congr_right fun ho => ?_
    rw [howner, ho]
    simp
  have hnone : (s.mapSlots fun _ => Slot.vacateDue s.counter).positionsHold i = false ↔ ∀ p x, s.slotAt p = some x →
      (x.owner ≠ some i ∨ x.leaves s.counter = true) ∧ x.incoming.map Incoming.lease ≠ some i := by
    rw [positionsHold_eq_false]
    refine forall_congr' fun p => ?_
    rw [slotAt_mapSlots]
    cases s.slotAt p with
    | none => simp
    | some x =>
      simp only [Option.map_some, Option.some.injEq, forall_eq', howner, hincoming]
      cases x.leaves s.counter <;> simp
  unfold vacating vacatedLease
  rw [Bool.and_eq_true, Bool.and_eq_true, any_cells_iff, all_cells_iff, hlost, Bool.and_eq_true, Bool.not_eq_true', hnone]
  simp only [Bool.and_eq_true, Bool.or_eq_true, decide_eq_true_iff]
  exact ⟨fun ⟨⟨h₁, h₂⟩, h₃⟩ => ⟨h₂, h₁, h₃⟩, fun ⟨h₂, h₁, h₃⟩ => ⟨⟨h₁, h₂⟩, h₃⟩⟩

/-- What the first step and its reports make of every record. -/
theorem ended_vacateStep (s : State) : Ended (allLeases.filter s.vacating) false (fun _ => true)
    (s.mapSlots fun _ => Slot.vacateDue s.counter) s.vacateStep := by
  have h := ended_reportVacated_foldl (ls := allLeases.filter fun i =>
    (ownersLost s.slots (s.mapSlots fun _ => Slot.vacateDue s.counter).slots).contains i)
    ((List.nodup_finRange 32).filter _) (s.mapSlots fun _ => Slot.vacateDue s.counter)
  rw [List.filter_filter] at h
  have hsame : allLeases.filter s.vacating = allLeases.filter fun i =>
      (s.mapSlots fun _ => Slot.vacateDue s.counter).vacatedLease i &&
        (ownersLost s.slots (s.mapSlots fun _ => Slot.vacateDue s.counter).slots).contains i := by
    refine List.filter_congr fun i _ => ?_
    rw [Bool.eq_iff_iff, vacating_iff, Bool.and_eq_true, List.contains_iff_mem, and_comm]
  rw [hsame]
  exact h

end State

/-- Settles O20: the leases that no record names after the first step are retired, each once. -/
theorem ownersVacateAtTheirUntil : Obligations.OwnersVacateAtTheirUntil := by
  intro s hdue
  have hexec : exec .ownerUntilVacate s = .next (s.setDue { s.due with vacate := false }).vacateStep :=
    congrArg Host.Outcome.next (if_pos hdue)
  have hu := ended_vacateStep (s.setDue { s.due with vacate := false })
  rw [hexec]
  generalize (s.setDue { s.due with vacate := false }).vacateStep = t at hu
  obtain ⟨hfg, hrequests, hdeferred, hpointer, huplink, hcredited, -, hattnEn, hsettings, hport, hcmd, hdue, -⟩ := hu.untouched
  have hslot : ∀ p, t.slotAt p = (s.slotAt p).map (Slot.vacateDue s.counter) := fun p =>
    (hu.slotAt_of_unmoved p).trans (slotAt_mapSlots ..)
  have hleases : ∀ i, t.leases.get i = if i ∈ allLeases.filter s.vacating
      then ⟨(s.leases.get i).generation + 1, (s.leaseAt i).map Lease.vacateReason, none⟩ else s.leases.get i := hu.leases
  have hentry : ∀ a, t.entry a = (s.entry a).lowered s ((allLeases.filter s.vacating).filter fun i => s.heldBy a i) :=
    fun a => (hu.entry a).trans (by rw [List.filter_true]; rfl)
  have hreconsider : t.engine.reconsider = (s.engine.reconsider || !(allLeases.filter s.vacating).isEmpty) := by
    have hgone : (!(allLeases.filter s.vacating).isEmpty) = true ↔ ∃ i ∈ allLeases.filter s.vacating, true = true := by
      rw [Bool.not_eq_true', ← Bool.not_eq_true, List.isEmpty_iff, List.eq_nil_iff_forall_not_mem]
      simp only [not_forall, not_not, and_true]
    rw [Bool.eq_iff_iff, Bool.or_eq_true, hgone]
    exact hu.reconsider.trans (or_congr_right (or_iff_left (not_freed_of_same hu.slotAt_of_unmoved)))
  have hengine : t.engine = { s.engine with
      reconsider := s.engine.reconsider || !(allLeases.filter s.vacating).isEmpty, stepReady := t.engine.stepReady } := by
    rw [← hreconsider]
    exact hu.engine
  have hqueue : (t.notices, t.attention) =
      (allLeases.filter s.vacating).foldl (s.endedQueue false fun _ => true) (s.notices, s.attention) := hu.queue
  refine ⟨t, rfl, ⟨fun p => ?slots, fun i l hl hi => ?retired, fun i hi => (hleases i).trans (if_neg hi), ?queue, hentry,
    hengine, fun i l hl hi hm => hu.underMove i l hi hl hm, hu.other⟩,
    hdue, hfg, hrequests, hdeferred, hpointer, huplink, hcredited, hattnEn, hsettings, hport, hcmd⟩
  case slots =>
    rw [hslot, show Slot.vacateDue s.counter = _ from funext (Slot.vacateDue_eq s.counter)]
    rfl
  case retired =>
    refine (hleases i).trans ((if_pos hi).trans ?_)
    rw [hl]
    rfl
  case queue =>
    refine hqueue.trans (congrArg (fun f => List.foldl f _ _) (funext fun x => funext fun i => ?_))
    rfl
end Sys2Proof.Machine
end

section
/-!
PROOFS. The UNSENT moves that end with their lease at a frame start (05, R105, R107).
-/
namespace Sys2Proof.Machine

open State

namespace State

variable {s u v : State} {i j : LeaseIdx} {l : Lease} {moved : Bool} {gone : LeaseIdx → Bool}

/-- The lease's end frame has come while its move is UNSENT (05, R105). -/
def moveOvertaken (s : State) (i : LeaseIdx) : Bool :=
  match s.leaseAt i with
  | some l => match l.move, l.startFrame, l.endFrame with
    | some ⟨_, none⟩, some st, some e => decide ((e - st).toNat ≤ (s.counter - st).toNat)
    | _, _, _ => false
  | none => false

/-- The lease with the overtaken move holds no position (01, R20). -/
def overtakenVacated (s : State) (i : LeaseIdx) : Bool :=
  s.moveOvertaken i && s.slots.cells.all fun x => decide (x.owner ≠ some i)

theorem endMoveOf_eq (s : State) (i : LeaseIdx) :
    s.endMoveOf i = if s.moveOvertaken i = true then (s.removeMove i).reportVacated i else s := by
  unfold endMoveOf moveOvertaken hasUnsentMove Lease.endCome
  cases hl : s.leaseAt i with
  | none => rfl
  | some l =>
    obtain ⟨state, holder, origin, start, cls, priority, term, startFrame, endFrame, endReason, seqEcho, takenUp, idle, move,
      endAnnounced⟩ := l
    rcases move with _ | ⟨target, _ | m⟩
    · simp
    · cases startFrame with
      | none => simp
      | some st =>
        cases endFrame with
        | none => simp
        | some e => exact if_congr (and_iff_right rfl) rfl rfl
    · simp

theorem leased_of_moveOvertaken (h : s.moveOvertaken i = true) : ∃ l, s.leaseAt i = some l := by
  unfold moveOvertaken at h
  cases hl : s.leaseAt i with
  | none =>
    rw [hl] at h
    exact absurd h (by simp)
  | some l => exact ⟨l, rfl⟩

/-- After the removal of its move, a lease is named where it is an owner. -/
theorem positionsHold_removeMove (hl : s.leaseAt i = some l) :
    (s.removeMove i).positionsHold i = !(s.slots.cells.all fun x => decide (x.owner ≠ some i)) := by
  have hnone : (s.removeMove i).positionsHold i = false ↔ (s.slots.cells.all fun x => decide (x.owner ≠ some i)) = true := by
    rw [positionsHold_eq_false, all_cells_iff]
    refine forall_congr' fun p => ?_
    rw [slotAt_removeMove hl]
    cases s.slotAt p with
    | none => simp
    | some x =>
      simp only [Option.map_some, Option.some.injEq, forall_eq', decide_eq_true_iff]
      split
      · simp
      · next h => exact and_iff_left h
  cases h : (s.removeMove i).positionsHold i with
  | false => rw [hnone.mp h]; rfl
  | true =>
    rw [eq_comm, Bool.not_eq_true', ← Bool.not_eq_true, ← hnone, h]
    simp

/-- The overtaken move of one lease (05, R105). -/
theorem ended_endMoveOf (h : s.moveOvertaken i = true) : Ended [i] true s.overtakenVacated s (s.endMoveOf i) := by
  obtain ⟨l, hl⟩ := leased_of_moveOvertaken h
  rw [endMoveOf_eq, if_pos h]
  unfold reportVacated
  rw [positionsHold_removeMove hl]
  cases hall : s.slots.cells.all fun x => decide (x.owner ≠ some i) with
  | true =>
    have hg : s.overtakenVacated i = true := by rw [overtakenVacated, h, hall]; rfl
    exact ended_removed_retired (gone' := fun _ => false) hl hg rfl (ended_removeMove hl rfl)
      (ended_retireVacated (leaseAt_removeMove hl) (by rw [positionsHold_removeMove hl, hall]; rfl) hg)
  | false =>
    have hg : s.overtakenVacated i = false := by rw [overtakenVacated, hall, Bool.and_false]
    exact ended_removeMove hl hg

/-- The end of one move leaves the others as they are. -/
theorem moveOvertaken_of_ended (hv : Ended [i] moved gone s v) (hj : j ≠ i) : v.moveOvertaken j = s.moveOvertaken j := by
  unfold moveOvertaken
  rw [hv.leaseAt_ne hj, hv.counter]

theorem overtakenVacated_of_ended (hv : Ended [i] moved gone s v) (hj : j ≠ i) :
    v.overtakenVacated j = s.overtakenVacated j := by
  unfold overtakenVacated
  rw [moveOvertaken_of_ended hv hj]
  refine congrArg (s.moveOvertaken j && ·) ?_
  rw [Bool.eq_iff_iff, all_cells_iff, all_cells_iff]
  refine forall_congr' fun p => ?_
  rw [hv.slotAt]
  cases s.slotAt p with
  | none => simp
  | some x => simp only [Option.map_some, Option.some.injEq, forall_eq', Slot.owner_unentered]

/-- What the removal of the overtaken moves makes of every record. -/
theorem ended_moveEndsStep (s : State) :
    Ended (allLeases.filter s.moveOvertaken) true s.overtakenVacated s s.moveEndsStep :=
  ended_foldl (pick := moveOvertaken) (gone := overtakenVacated) (fun _ _ h => ended_endMoveOf h)
    (fun s i h => by rw [endMoveOf_eq, if_neg (by simp [h])])
    (fun _ _ _ _ hv hj => ⟨moveOvertaken_of_ended hv hj, overtakenVacated_of_ended hv hj⟩) (List.nodup_finRange 32) s

/-- A notice after the end of a leased entry was queued before, or is the EXPIRED one with no link; a MOVE of the entry is
withdrawn (08, R169). -/
theorem mem_endedQueue (hl : s.leaseAt i = some l) {x : List QueuedNotice × BitVec 10} {q : QueuedNotice}
    (hq : q ∈ (s.endedQueue true gone x i).1) :
    (q ∈ x.1 ∨ q.link = none) ∧ (q.link = some i → q.notice.isMove = false) := by
  have hmoveless : q ∈ x.1.filter (fun q => !(decide (q.link = some i) && q.notice.isMove)) →
      (q ∈ x.1 ∨ q.link = none) ∧ (q.link = some i → q.notice.isMove = false) := fun h => by
    obtain ⟨hmem, hkeep⟩ := List.mem_filter.mp h
    exact ⟨.inl hmem, fun hlink => by simpa [hlink] using hkeep⟩
  have hkept : q ∈ (x.1.filter fun q => !(decide (q.link = some i) && q.notice.isMove)).filter
      (fun q => decide (q.notice.handle ≠ some (s.handleOf i))) →
      (q ∈ x.1 ∨ q.link = none) ∧ (q.link = some i → q.notice.isMove = false) := fun h =>
    hmoveless (List.mem_of_mem_filter h)
  unfold endedQueue at hq
  simp only [hl, if_true] at hq
  split at hq
  · exact hmoveless hq
  · split at hq
    · exact hkept hq
    · split at hq
      · exact hkept hq
      · split at hq
        · rcases List.mem_append.mp hq with h | h
          · exact hkept h
          · obtain rfl := List.mem_singleton.mp h
            exact ⟨.inr rfl, fun h => absurd h (by simp)⟩
        · exact hkept hq

theorem mem_foldl_endedQueue {ls : List LeaseIdx} (hls : ∀ i ∈ ls, ∃ l, s.leaseAt i = some l) {x : List QueuedNotice × BitVec 10}
    {q : QueuedNotice} (hq : q ∈ (ls.foldl (s.endedQueue true gone) x).1) :
    (q ∈ x.1 ∨ q.link = none) ∧ ∀ i ∈ ls, q.link = some i → q.notice.isMove = false := by
  induction ls generalizing x with
  | nil => exact ⟨.inl hq, fun i hi => absurd hi (by simp)⟩
  | cons i ls ih =>
    obtain ⟨hfrom, hothers⟩ := ih (fun j hj => hls j (List.mem_cons_of_mem i hj)) hq
    obtain ⟨l, hl⟩ := hls i List.mem_cons_self
    rcases hfrom with hfrom | hnone
    · obtain ⟨hfrom', hmove⟩ := mem_endedQueue hl hfrom
      refine ⟨hfrom', fun j hj => ?_⟩
      rcases List.mem_cons.mp hj with rfl | hj
      · exact hmove
      · exact hothers j hj
    · exact ⟨.inr hnone, fun j _ h => absurd (hnone.symm.trans h) (by simp)⟩

end State

/-- Settles O24: the overtaken moves are removed each once, and the leases then left no position retired. -/
theorem unsentMovesEndWithTheirLease : Obligations.UnsentMovesEndWithTheirLease := by
  intro s hdue
  have hexec : exec .moveTermEndRemoval s = .next (s.setDue { s.due with moveEnds := false }).moveEndsStep :=
    congrArg Host.Outcome.next (if_pos hdue)
  have hu := ended_moveEndsStep (s.setDue { s.due with moveEnds := false })
  rw [hexec]
  generalize (s.setDue { s.due with moveEnds := false }).moveEndsStep = t at hu
  have hmem : ∀ i, i ∈ allLeases.filter s.moveOvertaken ↔ s.moveOvertaken i = true := fun i =>
    List.mem_filter.trans (and_iff_right (List.mem_finRange i))
  have hleases : ∀ i, t.leases.get i = if i ∈ allLeases.filter s.moveOvertaken
      then s.endedEntry s.overtakenVacated i else s.leases.get i := hu.leases
  have hslot : ∀ p, t.slotAt p =
      (s.slotAt p).map (Slot.unentered fun i => true && decide (i ∈ allLeases.filter s.moveOvertaken)) := hu.slotAt
  have hqueue : (t.notices, t.attention) =
      (allLeases.filter s.moveOvertaken).foldl (s.endedQueue true s.overtakenVacated) (s.notices, s.attention) := hu.queue
  have hentry : ∀ a, t.entry a = (s.entry a).lowered s
      (((allLeases.filter s.moveOvertaken).filter s.overtakenVacated).filter fun i => s.heldBy a i) := hu.entry
  have hreconsider : t.engine.reconsider = true ↔ s.engine.reconsider = true ∨
      (∃ i ∈ allLeases.filter s.moveOvertaken, s.overtakenVacated i = true) ∨ Freed s t := hu.reconsider
  have hended : ∀ i l, s.leaseAt i = some l → s.moveOvertaken i = true → t.leases.get i = if s.overtakenVacated i = true
      then ⟨(s.leases.get i).generation + 1, some l.vacateReason, none⟩
      else { s.leases.get i with lease := some { l with move := none } } := fun i l hl hi => by
    rw [hleases, if_pos ((hmem i).mpr hi), endedEntry, hl]
    rfl
  obtain ⟨hfg, hrequests, hdeferred, hpointer, huplink, hcredited, -, hattnEn, hsettings, hport, hcmd, hdue, -⟩ := hu.untouched
  refine ⟨t, rfl, ⟨fun p => ?slots, fun i l hl hi hs => ⟨fun hheld => ?moveless, fun hvacated => ?vacated⟩, hended,
    fun i hi q hq => ?withdrawn, fun i hi => (hleases i).trans (if_neg ?kept), hqueue, fun a => ?entry, hu.engine, ?reconsider,
    fun i l hl hi hm => hu.underMove i l ((hmem i).mpr hi) hl hm, fun hno => hu.other fun i hi => hno i ((hmem i).mp hi)⟩,
    hdue, hfg, hrequests, hdeferred, hpointer, huplink, hcredited, hattnEn, hsettings, hport, hcmd⟩
  case slots =>
    refine (hslot p).trans (congrArg (fun f => (s.slotAt p).map f) (funext fun x => ?_))
    have hends : (fun i => true && decide (i ∈ allLeases.filter s.moveOvertaken)) = s.moveOvertaken := funext fun i => by
      rw [Bool.true_and, Bool.eq_iff_iff, decide_eq_true_iff, hmem]
    rw [hends]
    unfold Slot.unentered
    cases x.incoming with
    | none => rfl
    | some n => rfl
  case moveless =>
    obtain ⟨p, x, hx, ho⟩ := hheld
    refine (congrArg LeaseEntry.lease ((hended i l hl hi).trans (if_neg fun hg => ?_)) :)
    exact (of_decide_eq_true (all_cells_iff.mp (Bool.and_eq_true_iff.mp hg).2 p x hx)) ho
  case vacated =>
    have hg : s.overtakenVacated i = true :=
      Bool.and_eq_true_iff.mpr ⟨hi, all_cells_iff.mpr fun p x hx => decide_eq_true (hvacated p x hx)⟩
    refine (hended i l hl hi).trans ((if_pos hg).trans ?_)
    rw [Lease.vacateReason, Lease.toldExpired, hs]
    rfl
  case withdrawn =>
    have hq' : q ∈ ((allLeases.filter s.moveOvertaken).foldl (s.endedQueue true s.overtakenVacated)
        (s.notices, s.attention)).1 := hqueue ▸ hq
    exact (mem_foldl_endedQueue (fun j hj => leased_of_moveOvertaken ((hmem j).mp hj)) hq').2 i ((hmem i).mpr hi)
  case kept =>
    rw [hmem, Bool.not_eq_true]
    exact hi
  case entry =>
    have hmine : ((allLeases.filter s.moveOvertaken).filter s.overtakenVacated).filter (fun i => s.heldBy a i) =
        allLeases.filter fun i => s.overtakenVacated i && s.heldBy a i := by
      rw [List.filter_filter, List.filter_filter]
      refine List.filter_congr fun i _ => ?_
      unfold overtakenVacated
      cases s.moveOvertaken i <;> simp [Bool.and_comm]
    refine (hentry a).trans ?_
    rw [hmine]
    rfl
  case reconsider =>
    refine hreconsider.trans (or_congr_right (or_congr_left (exists_congr fun i => ?_)))
    exact and_iff_right_of_imp fun hg => (hmem i).mpr (Bool.and_eq_true_iff.mp hg).1

end Sys2Proof.Machine
end

section
/-!
PROOFS. The sending of a MOVE (05, R103; 08, R167): the move goes ahead, or its target is given up.
-/
namespace Sys2Proof.Machine

open State

namespace State

variable {s b u v w : State} {q : QueuedNotice} {rest : List QueuedNotice} {i : LeaseIdx} {l : Lease} {st target : Pos}
  {o : BitVec 3} {sf : Frame}

/-- The mark of R148 on the reply copy of an entry, in frame `now`. -/
def markedEntry (now : Frame) (e : RosterEntry) : RosterEntry := { e with reply := e.reply.map fun c => match c.effect with
  | some f => if (now - f).toNat < 32768 then { c with come := true } else c
  | none => c }

/-- The lease whose MOVE is sent (05, R103). -/
def moving (target : Pos) (effect : Frame) (l : Lease) : Lease := { l with move := some ⟨target, some effect⟩ }

/-- A MOVE is sent: what its report makes stands, but for the marks of R148 (08, R167). -/
theorem exec_frameStart_move {first : List FrameStep} (j k : Nat) (hq : s.quiet) (hf : s.frameFollows)
    (hb : StepsTaken first s.begun b) (hp : b.fg.phase = .inFrame)
    (hsent : b.notices.dropWhile (QueuedNotice.runsOut s.newFrame) = q :: rest) (hlink : q.link = some i)
    (hbody : q.notice.body = .move st o) :
    ∃ t, exec (.frameStart ⟨first, [], j, k⟩) s = .next t ∧
      (let w := (b.setNotices rest).moveSent i
       t.leases = w.leases ∧ (∀ p, t.slotAt p = w.slotAt p) ∧ t.engine = w.engine ∧ t.worker = w.worker ∧
        t.notices = w.notices ∧ t.attention = w.attention ∧ t.deferred = w.deferred ∧
        ∀ a, t.entry a = markedEntry s.newFrame (w.entry a)) := by
  obtain ⟨pointer, fg, uplink, -, -, -, hexec, -⟩ := exec_frameStart_marker j k hq hf hb hp
  have hcounter := (stepsTaken_counter hb hp).1
  rw [← hcounter] at hsent
  have hsend : b.sendNotice = (b.setNotices rest).moveSent i := by
    have hreport : (b.setNotices rest).reportSending q = (b.setNotices rest).moveSent i := by
      unfold reportSending
      simp only [hlink, hbody]
    have hanswer : ∀ u : State, u.reportAnswer q = u := fun u =>
      if_neg fun h => absurd h.2 (by simp [Notice.isGrantOrReleased, hbody, NoticeBody.kind])
    rw [(sendNotice_of_cons hsent).1, hanswer, hreport]
  have hnow : b.sendNotice.counter = s.newFrame := (congrArg FrameGen.counter (sendNotice_frame b).1).trans hcounter
  rw [hsend] at hexec hnow
  generalize (b.setNotices rest).moveSent i = w at hexec hnow
  refine ⟨_, hexec, rfl, fun _ => rfl, rfl, rfl, rfl, rfl, rfl, fun a => (entry_markCopies w a).trans ?_⟩
  rw [hnow]
  rfl

/-! ### The report of a MOVE (05, R103) -/

theorem moveSent_of_outlasts (hl : u.leaseAt i = some l) (hm : l.move = some ⟨target, none⟩)
    (h : l.outlasts u.counter u.settings.d = true) : u.moveSent i =
      (u.setLease i (moving target (u.counter + u.settings.d.setWidth 16) l)).mapSlots
        fun _ => Slot.writeMove i (u.counter + u.settings.d.setWidth 16) (l.untilWord u.counter) := by
  unfold moveSent
  simp only [hl, hm]
  exact if_pos h

theorem moveSent_of_not_outlasts (hl : u.leaseAt i = some l) (hm : l.move = some ⟨target, none⟩)
    (h : l.outlasts u.counter u.settings.d = false) : u.moveSent i =
      ((u.setLease i (moving target (u.counter + u.settings.d.setWidth 16) l)).removeIncoming i).reportVacated i := by
  unfold moveSent
  simp only [hl, hm]
  exact if_neg (by simp [h])

theorem outlasts_iff (hst : l.startFrame = some sf) (now : Frame) (d : BitVec 4) : l.outlasts now d = true ↔
    ∀ e, l.endFrame = some e → (now - sf).toNat + d.toNat < (e - sf).toNat := by
  unfold Lease.outlasts
  cases he : l.endFrame with
  | none => simp [hst]
  | some e =>
    simp only [hst, decide_eq_true_iff, Option.some.injEq, forall_eq']
    rfl

theorem untilWord_eq_range (hst : l.startFrame = some sf) (now : Frame) : l.untilWord now = match l.endFrame with
    | some e => if (e - now).toNat ≤ 32767 ∨ (e - sf).toNat ≤ (now - sf).toNat then some e else none
    | none => none := by
  cases he : l.endFrame with
  | none =>
    unfold Lease.untilWord
    rw [he]
  | some e => exact untilWord_eq hst he now

/-- The removal of a target changes the slot map and deferred-reconsider alone (02, R38). -/
theorem removeIncoming_form (u : State) (i : LeaseIdx) : u.removeIncoming i =
    (u.setSlots (u.removeIncoming i).slots).setEngine
      { u.engine with reconsider := (u.removeIncoming i).engine.reconsider } := by
  unfold removeIncoming
  rw [noteSpaceFreed_form]
  rfl

/-- What the target given up makes of every record (05, R103; 02, R38). -/
structure TargetGivenUp (i : LeaseIdx) (u v : State) : Prop where
  slotAt : ∀ p, v.slotAt p = (u.slotAt p).map fun x =>
    if x.incoming.map Incoming.lease = some i then { x with incoming := none } else x
  engine : v.engine = { u.engine with reconsider := v.engine.reconsider }
  reconsider : v.engine.reconsider = true ↔ u.engine.reconsider = true ∨ Freed u v
  fields : v.leases = u.leases ∧ v.worker = u.worker ∧ v.attention = u.attention ∧ v.notices = u.notices ∧
    v.roster = u.roster ∧ v.deferred = u.deferred

theorem targetGivenUp_removeIncoming (u : State) (i : LeaseIdx) : TargetGivenUp i u (u.removeIncoming i) := by
  refine ⟨slotAt_removeIncoming u i, ?_, reconsider_removeIncoming u i, ?_⟩
  · have h := removeIncoming_form u i
    generalize u.removeIncoming i = v at h
    exact congrArg State.engine h
  · rw [removeIncoming_form]
    exact ⟨rfl, rfl, rfl, rfl, rfl, rfl⟩

/-- The lease holds no position besides the target given up. -/
theorem TargetGivenUp.positionsHold (hv : TargetGivenUp i u v) :
    v.positionsHold i = false ↔ ∀ p x, u.slotAt p = some x → x.owner ≠ some i := by
  rw [positionsHold_eq_false]
  refine forall_congr' fun p => ?_
  rw [hv.slotAt]
  cases u.slotAt p with
  | none => simp
  | some x =>
    simp only [Option.map_some, Option.some.injEq, forall_eq']
    split
    · simp
    · next h => exact and_iff_left h

/-- The target given up, and the lease retired where that leaves it no position (05, R103; 01, R20). -/
theorem moveSent_givenUp (hl : u.leaseAt i = some l) (hm : l.move = some ⟨target, none⟩)
    (h : l.outlasts u.counter u.settings.d = false) :
    let u' := u.setLease i (moving target (u.counter + u.settings.d.setWidth 16) l)
    ∃ v, TargetGivenUp i u' v ∧ v.leaseAt i = some (moving target (u.counter + u.settings.d.setWidth 16) l) ∧
      ((∃ p x, u.slotAt p = some x ∧ x.owner = some i) → u.moveSent i = v) ∧
      ((∀ p x, u.slotAt p = some x → x.owner ≠ some i) → Ended [i] false (fun _ => true) v (u.moveSent i)) := by
  intro u'
  have hv := targetGivenUp_removeIncoming u' i
  have hl' : (u'.removeIncoming i).leaseAt i = some (moving target (u.counter + u.settings.d.setWidth 16) l) :=
    (congrArg (fun tbl : Table LeaseEntry 32 => (tbl.get i).lease) hv.fields.1).trans (leaseAt_setLease_self ..)
  rw [moveSent_of_not_outlasts hl hm h]
  refine ⟨u'.removeIncoming i, hv, hl', ?held, fun hnone => ?vacated⟩
  case held =>
    rintro ⟨p, x, hx, ho⟩
    refine if_pos ?_
    rw [← Bool.not_eq_false, hv.positionsHold]
    exact fun hnone => hnone p x hx ho
  case vacated =>
    have hvacated := hv.positionsHold.mpr hnone
    have hreport : (u'.removeIncoming i).reportVacated i = (u'.removeIncoming i).retireVacated i :=
      if_neg (Bool.eq_false_iff.mp hvacated)
    change Ended _ _ _ _ ((u'.removeIncoming i).reportVacated i)
    rw [hreport]
    exact ended_retireVacated hl' hvacated rfl

/-- The sending of a MOVE leaves the entries of other leases as they are. -/
theorem get_moveSent_ne (hl : u.leaseAt i = some l) (hm : l.move = some ⟨target, none⟩) {j : LeaseIdx} (hj : j ≠ i) :
    (u.moveSent i).leases.get j = u.leases.get j := by
  cases h : l.outlasts u.counter u.settings.d with
  | true =>
    rw [moveSent_of_outlasts hl hm h]
    exact leases_setLease_ne u _ hj
  | false =>
    obtain ⟨v, hv, -, hheld, hvacated⟩ := moveSent_givenUp hl hm h
    have hget : v.leases.get j = u.leases.get j :=
      (congrArg (Table.get · j) hv.fields.1).trans (leases_setLease_ne u _ hj)
    by_cases hown : ∃ p x, u.slotAt p = some x ∧ x.owner = some i
    · rw [hheld hown, hget]
    · refine ((hvacated fun p x hx ho => hown ⟨p, x, hx, ho⟩).get_ne hj).trans hget

/-- A retirement that tells nobody (01, R20). -/
theorem endedQueue_untold {gone : LeaseIdx → Bool} (hl : u.leaseAt i = some l) (hg : gone i = true)
    (h : l.holder = none ∨ l.toldExpired = false) (x : List QueuedNotice × BitVec 10) :
    u.endedQueue false gone x i = (x.1.filter fun q => decide (q.notice.handle ≠ some (u.handleOf i)), x.2) := by
  rw [endedQueue_retired hl hg]
  rcases h with h | h
  · simp only [h]
  · cases l.holder with
    | none => rfl
    | some a => exact if_pos h

/-- A retirement that tells the holder, if the queue has room (05, R99; 08, R165). -/
theorem endedQueue_told {gone : LeaseIdx → Bool} {a : Trib} (hl : u.leaseAt i = some l) (hg : gone i = true)
    (ha : l.holder = some a) (h : l.toldExpired = true) (x : List QueuedNotice × BitVec 10) :
    u.endedQueue false gone x i =
      (let kept := x.1.filter fun q => decide (q.notice.handle ≠ some (u.handleOf i))
       (if kept.length < 16
          then kept ++ [⟨⟨a, some (u.handleOf i), l.seqEcho, .expired .expired⟩, none, false, false, none, false⟩] else kept,
        if kept.length < 16 then x.2 else x.2 ||| 0x080)) := by
  rw [endedQueue_retired hl hg]
  simp only [ha]
  rw [if_neg (by simp [h])]
  split
  · rfl
  · rfl

end State

/-- Settles O19: the move goes ahead, or its target is given up and a lease left no position is retired. -/
theorem moveSentFixesEffectFrame : Obligations.MoveSentFixesEffectFrame := by
  intro first j k s b q rest i l st target sf o hq hf hb hp hsent hcopy hlink hbody hl hst hm
  obtain ⟨t, hexec, hleases, hslot, hengine, hworker, hnotices, hattention, hdeferred, hentry⟩ :=
    exec_frameStart_move j k hq hf hb hp hsent hlink hbody
  obtain ⟨hcounter, hset⟩ := stepsTaken_counter hb hp
  have hcounter' : (b.setNotices rest).counter = s.newFrame := hcounter
  have hset' : (b.setNotices rest).settings = s.settings := hset
  have houtlasts := outlasts_iff hst s.newFrame s.settings.d
  refine ⟨t, hexec, ⟨fun hlater => ?ahead, fun e he hearlier => ?givenUp⟩, fun j hj => ?others, ?deferred⟩
  case ahead =>
    have hsentMove := moveSent_of_outlasts (u := b.setNotices rest) hl hm
      (by rw [hcounter', hset']; exact houtlasts.mpr hlater)
    rw [hcounter', hset', untilWord_eq_range hst] at hsentMove
    generalize (b.setNotices rest).moveSent i = w at *
    subst hsentMove
    refine ⟨⟨hleases, hworker, hattention, hnotices, congrArg Engine.stepReady hengine, hentry⟩, hengine, fun p x hx => ?_⟩
    refine ⟨_, ((hslot p).trans (slotAt_mapSlots ..)).trans (congrArg (Option.map _) hx), ?_⟩
    rw [Slot.writeMove_eq]
    exact ⟨rfl, rfl, rfl, rfl, rfl⟩
  case givenUp =>
    have hnot : l.outlasts (b.setNotices rest).counter (b.setNotices rest).settings.d = false := by
      rw [hcounter', hset', ← Bool.not_eq_true, houtlasts]
      exact fun h => absurd (h e he) (Nat.not_lt.mpr hearlier)
    obtain ⟨v, hv, hlv, hheld, hvacated⟩ := moveSent_givenUp (u := b.setNotices rest) hl hm hnot
    rw [hcounter', hset'] at hv hlv
    generalize (b.setNotices rest).moveSent i = w at *
    obtain ⟨hvleases, hvworker, hvattention, hvnotices, hvroster, -⟩ := hv.fields
    have hvget : v.leases.get i = { b.leases.get i with
        lease := some (moving target (s.newFrame + s.settings.d.setWidth 16) l) } := by
      rw [hvleases]
      exact Table.get_set_eq ..
    have hhandle : v.handleOf i = b.handleOf i := (congrArg (fun e : LeaseEntry => Handle.mk i e.generation) hvget :)
    have hventry : ∀ a, v.entry a = b.entry a := fun a => congrArg (Table.get · a) hvroster
    by_cases hown : ∃ p x, b.slotAt p = some x ∧ x.owner = some i
    · obtain rfl := hheld hown
      have hgone : ¬ ∀ p x, b.slotAt p = some x → x.owner ≠ some i := fun h => by
        obtain ⟨p, x, hx, ho⟩ := hown
        exact h p x hx ho
      refine ⟨fun p => (hslot p).trans (hv.slotAt p), ?engine, ?reconsider, fun _ => ⟨hleases.trans hvleases,
        hworker.trans hvworker, hattention.trans hvattention, hnotices.trans hvnotices, ?ready, fun a => ?marked⟩,
        fun h => absurd h hgone⟩
      case engine =>
        rw [hengine, hv.engine]
        rfl
      case reconsider =>
        rw [hengine, hv.reconsider]
        refine or_congr_right ((or_iff_right hgone).trans ?_).symm
        simp only [hslot]
        rfl
      case ready =>
        rw [hengine, hv.engine]
        rfl
      case marked => exact (hentry a).trans (congrArg (markedEntry s.newFrame) (hventry a))
    · have hnone : ∀ p x, b.slotAt p = some x → x.owner ≠ some i := fun p x hx ho => hown ⟨p, x, hx, ho⟩
      have hu := hvacated hnone
      have hqueue := hu.queue
      rw [List.foldl_cons, List.foldl_nil, hvnotices, hvattention] at hqueue
      refine ⟨fun p => (hslot p).trans ((hu.slotAt_of_unmoved p).trans (hv.slotAt p)), ?engine, ?reconsider,
        fun h => absurd h hown, fun _ => ⟨?leases, fun hunder => ?underMove, fun hno => ?other, ⟨?untold, ?told⟩,
        fun a ha => ?entries, fun a ha => ?holder⟩⟩
      case engine =>
        rw [hengine, hu.engine, hv.engine]
        rfl
      case reconsider =>
        rw [hengine]
        exact iff_of_true (hu.reconsider.mpr (.inr (.inl ⟨i, List.mem_singleton_self i, rfl⟩))) (.inr (.inl hnone))
      case leases =>
        refine hleases.trans (table_eq_set ?_ fun j hj => ?_)
        · rw [hu.leases, if_pos (List.mem_singleton_self i), endedEntry, if_pos rfl, hlv, hvget, Option.map_some]
          refine congrArg (fun r => (⟨(b.leases.get i).generation + 1, some r, none⟩ : LeaseEntry)) ?_
          change (if l.toldExpired = false then l.endReason.getD .expired else .expired) =
            if l.toldExpired = true then .expired else l.endReason.getD .expired
          cases l.toldExpired with
          | true => rfl
          | false => rfl
        · rw [hu.get_ne hj, hvleases]
          exact leases_setLease_ne _ _ hj
      case underMove =>
        obtain ⟨hworker', hready'⟩ := hu.underMove i _ (List.mem_singleton_self i) hlv (by rw [hvworker, hhandle]; exact hunder)
        rw [hvworker] at hworker'
        exact ⟨hworker.trans hworker', (congrArg Engine.stepReady hengine).trans hready'⟩
      case other =>
        obtain ⟨hworker', hready'⟩ := hu.other fun j hj => by
          obtain rfl := List.mem_singleton.mp hj
          rw [hvworker, hhandle]
          exact hno
        refine ⟨hworker.trans (hworker'.trans hvworker), (congrArg Engine.stepReady hengine).trans (hready'.trans ?_)⟩
        exact (congrArg Engine.stepReady hv.engine :)
      case untold =>
        intro hsilent
        rw [endedQueue_untold hlv rfl hsilent, hhandle] at hqueue
        obtain ⟨hn, ha⟩ := Prod.mk.inj hqueue
        exact ⟨hnotices.trans hn, hattention.trans ha⟩
      case told =>
        intro a ha htold
        rw [endedQueue_told hlv rfl ha htold, hhandle] at hqueue
        obtain ⟨hn, ha⟩ := Prod.mk.inj hqueue
        exact ⟨hnotices.trans hn, hattention.trans ha⟩
      case entries =>
        refine (hentry a).trans (congrArg (markedEntry s.newFrame) ((hu.entry a).trans ?_))
        have hheld : v.heldBy a i = false := by
          unfold heldBy
          rw [hlv]
          exact decide_eq_false ha
        rw [hventry, List.filter_cons_of_pos rfl, List.filter_nil, List.filter_cons_of_neg (by simp [hheld]), List.filter_nil,
          RosterEntry.lowered_nil]
      case holder =>
        have hheld : v.heldBy a i = true := by
          unfold heldBy
          rw [hlv]
          exact decide_eq_true ha
        have hlowered := hu.entry a
        rw [hventry, List.filter_cons_of_pos rfl, List.filter_nil, List.filter_cons_of_pos (by simp [hheld]), List.filter_nil,
          lowered_one hlv, hhandle] at hlowered
        intro e forgets
        have hwritten : w.entry a = (let cleared := decide (l.origin = .bus) &&
              (e.reply.any fun c => c.notice.isGrant && decide (c.notice.handle = some (b.handleOf i)))
            { e with reply := if cleared then none else e.reply, lastSeq := if cleared then none else e.lastSeq }) := hlowered
        refine ⟨fun hf => (hentry a).trans ?_, fun hf => (hentry a).trans (congrArg (markedEntry s.newFrame) ?_)⟩
        · rw [hwritten, forgets_iff.mp hf]
          rfl
        · rw [hwritten, Bool.eq_false_iff.mpr fun hc => hf (forgets_iff.mpr hc)]
          rfl
  case others => exact (congrArg (Table.get · j) hleases).trans (get_moveSent_ne (u := b.setNotices rest) hl hm hj)
  case deferred =>
    obtain ⟨-, -, hsame, -⟩ := moveSent_frame (b.setNotices rest) i
    exact hdeferred.trans hsame

end Sys2Proof.Machine
end
